-- ==== Sys2Proof/Word.lean ====
section
/-! DEFINITION. The words of the CB5's interfaces: bytes, 32-bit bus words, and the two fixed-length
vector operations every register bank is read and written through. -/

namespace Sys2Proof

/-- One byte of main memory, of the viewfinder link or of a request's parameters. -/
abbrev Byte := BitVec 8

/-- One 32-bit word of the local bus (R176). -/
abbrev BusWord := BitVec 32

/-- A bank with its entry `i` replaced. -/
def put {α : Type} {n : Nat} (v : Vector α n) (i : Fin n) (x : α) : Vector α n :=
  v.set i.1 x i.2

/-- A bank with every entry passed through `f`. -/
def mapBank {α β : Type} {n : Nat} (f : α → β) (v : Vector α n) : Vector β n :=
  Vector.ofFn fun i => f v[i]

/-- A bank with entry `i` changed by `f`. -/
def modify {α : Type} {n : Nat} (v : Vector α n) (i : Fin n) (f : α → α) : Vector α n :=
  put v i (f v[i])

end Sys2Proof
end

