-- ==== Sys2Proof/Syntax.lean ====
section
/-! DEFINITION. The commands of the CB5: one constructor of `Instr` per row of
spec/opcode_table.json, with the operands the rule of that row gives it. Each docstring names the
row's rule. Operands that a wire, a register field or a request parameter carries are bit vectors
of the stated width; indexes are `Fin`; data whose length is not fixed by its type is a list, whose
length `Instr.wellFormed` checks. -/

namespace Sys2Proof

/-- The two card slots (Chapter 6). -/
inductive CardSlot where
  | a | b
  deriving DecidableEq, Repr

/-- The two stabiliser axes (Chapter 5). -/
inductive Axis where
  | yaw | pitch
  deriving DecidableEq, Repr

/-- The two axes whose local hold is started by a delta (R155). -/
inductive WheelAxis where
  | focus | iris
  deriving DecidableEq, Repr

/-- The eight converter channels, 0 to 7 (section 2.2). -/
inductive Channel where
  | yawGyro | pitchGyro | zoomPos | irisHall | battery | dcInput | pot1 | pot2
  deriving DecidableEq, Repr

/-- The four class C channels, 4 to 7 (R27). -/
inductive ClassC where
  | battery | dcInput | pot1 | pot2
  deriving DecidableEq, Repr

/-- The receivers of a frame-start notice (R3). The notice does not order them. -/
inductive Receiver where
  | record | audio | lens | page | cues | clock
  deriving DecidableEq, Repr

/-- The seven lanes (R180). -/
inductive LaneId where
  | system | lens | stab | record | essence | audio | display
  deriving DecidableEq, Repr

/-- The registers a write of which has no effect (R176). -/
inductive FixedRegister where
  | ident | doneLatch | events
  deriving DecidableEq, Repr

/-- How a series of bus writes ends: all made, or a bus error after `written` bytes. -/
inductive BusEnd where
  | ok
  | error (written : Nat)
  deriving DecidableEq, Repr

/-- How a bus read ends: with its bytes in address order, or with a bus error. -/
inductive ReadEnd where
  | data (bytes : List Byte)
  | error
  deriving DecidableEq, Repr

/-- How the fetch read of a slot ends (R179): the header's kind and parameter length and the
parameter bytes read, or a bus error. -/
inductive FetchEnd where
  | data (kind : Byte) (length : BitVec 16) (params : List Byte)
  | error
  deriving DecidableEq, Repr

/-- The answer to a HEADER_READ (R94, R97); values as the card gives them, valid or not. -/
inductive HeaderAnswer where
  | header (capacity committed indexCount lastClip : Nat)
  | error
  deriving DecidableEq, Repr

/-- The answer that ends a BLOCK_WRITE, INDEX_WRITE or FORMAT (R94). -/
inductive CardAnswer where
  | done
  | error
  deriving DecidableEq, Repr

/-- One line's group of SET_LINES (R24). -/
structure LineParam where
  debounce : BitVec 16
  rise     : Byte
  fall     : Byte
  deriving DecidableEq, Repr

/-- One channel's group of AUDIO_CONFIG (R146). -/
structure AudioParam where
  source   : Byte
  phantom  : Byte
  gainMode : Byte
  hostGain : Byte
  deriving DecidableEq, Repr

/-- One extent of WRITE_ESSENCE (R118). -/
structure ExtentParam where
  address : BitVec 32
  length  : BitVec 32
  frames  : BitVec 16
  deriving DecidableEq, Repr

/-- The parameters of SET_CUE (R170). -/
structure CueParam where
  channel   : Byte
  enable    : Byte
  source    : Byte
  value     : BitVec 32
  mask      : Byte
  condition : Byte
  action    : Byte
  mode      : Byte
  deriving DecidableEq, Repr

/-- The commands of the CB5. A request's command carries the slot that holds the request. -/
inductive Instr where
  /-- POWER_ON_RESET (R184, R20): release of RESET with the seven line pins at `pins`. -/
  | powerOnReset (pins : BitVec 7)
  /-- CONTROLLER_RESET (R184): a CONTROL write with RESET 1. -/
  | controllerReset
  /-- CONTROL_WRITE (R176). -/
  | controlWrite (value : BusWord)
  /-- WORK_BASE_WRITE (R177). -/
  | workBaseWrite (value : BusWord)
  /-- POST_WRITE (R178). -/
  | postWrite (value : BusWord)
  /-- DONE_READ (R181). -/
  | doneRead
  /-- RELEASE_WRITE (R182). -/
  | releaseWrite (value : BusWord)
  /-- EVENTS_READ (R172). -/
  | eventsRead
  /-- REGISTER_WRITE_NO_EFFECT (R176). -/
  | registerWriteNoEffect (register : FixedRegister) (value : BusWord)
  /-- FETCH_START (R179). -/
  | fetchStart
  /-- FETCH_END (R179); `writes` is how the MALFORMED completion's writes end, where there are any. -/
  | fetchEnd (read : FetchEnd) (writes : BusEnd)
  /-- LANE_START (R180). -/
  | laneStart (lane : LaneId)
  /-- COMPLETION_WRITES_END (R181), for the completion whose writes are in flight. -/
  | completionWritesEnd (writes : BusEnd)
  /-- CANCEL (R183). -/
  | cancel (slot : Fin 32) (target : Byte)
  /-- GET_STATUS (R175). -/
  | getStatus (slot : Fin 32)
  /-- SET_EVENT_LEVELS (R174). -/
  | setEventLevels (slot : Fin 32) (levels : List Byte)
  /-- SET_CUE (R170). -/
  | setCue (slot : Fin 32) (cue : CueParam)
  /-- SET_VIDEO_FORMAT (R15). -/
  | setVideoFormat (slot : Fin 32) (rate drop : Byte)
  /-- SET_TC (R16). -/
  | setTc (slot : Fin 32) (hours minutes seconds frames : Byte)
  /-- SET_TC_MODE (R17). -/
  | setTcMode (slot : Fin 32) (mode : Byte)
  /-- SET_GENLOCK (R18). -/
  | setGenlock (slot : Fin 32) (enable : Byte)
  /-- FRAME_START (R2, R3); `order` is the order in which the receivers take the notice. -/
  | frameStart (order : List Receiver)
  /-- DAY_LIMIT_REACHED (R116): the frame start at which the clip's frames reach the frames per day. -/
  | dayLimitReached (order : List Receiver)
  /-- HOLDOVER_EXPIRY (R10): the 250th frame start in HOLDOVER. -/
  | holdoverExpiry (order : List Receiver)
  /-- REFERENCE_EDGE (R4); `order` is used where the edge takes a frame start (R8). -/
  | referenceEdge (order : List Receiver)
  /-- MISSED_EDGE (R6). -/
  | missedEdge
  /-- LINE_RAW_CHANGE (R21): the pin of `line` goes to `level`. -/
  | lineRawChange (line : Fin 7) (level : Bool)
  /-- DEBOUNCE_EXPIRY (R21). -/
  | debounceExpiry (line : Fin 7)
  /-- SET_LINES (R24). -/
  | setLines (slot : Fin 32) (groups : List LineParam)
  /-- SCAN_FRAME_START (R26, R27). -/
  | scanFrameStart
  /-- CHANNEL_STARVED (R29): the scan frame start at which `channel` becomes starved. -/
  | channelStarved (channel : ClassC)
  /-- CONVERSION_COMPLETE (R28). -/
  | conversionComplete (channel : Channel) (code : BitVec 12)
  /-- SET_SCAN (R30). -/
  | setScan (slot : Fin 32) (code : Byte)
  /-- SET_POWER_LIMITS (R35). -/
  | setPowerLimits (slot : Fin 32) (low empty : BitVec 16)
  /-- ZOOM_MOVE (R43). -/
  | zoomMove (slot : Fin 32) (target : BitVec 16) (maxSpeed : Byte)
  /-- ZOOM_SPEED (R44); the speed is signed. -/
  | zoomSpeed (slot : Fin 32) (speed : Byte) (duration : BitVec 16)
  /-- ZOOM_SPEED_EXPIRY (R44). -/
  | zoomSpeedExpiry
  /-- ZOOM_STALL (R48): the scan frame start at which the stall count reaches 200. -/
  | zoomStall
  /-- FOCUS_STEP (R50, R51). -/
  | focusStep
  /-- REFERENCING_FAULT (R50): the 8,704th referencing step. -/
  | referencingFault
  /-- FOCUS_MOVE (R52). -/
  | focusMove (slot : Fin 32) (target : BitVec 16) (rate : Byte)
  /-- IRIS_SET (R56). -/
  | irisSet (slot : Fin 32) (target : BitVec 16)
  /-- IRIS_STALL (R56): the frame start at which the settle count reaches 50. -/
  | irisStall (order : List Receiver)
  /-- LENS_STOP (R57). -/
  | lensStop (slot : Fin 32)
  /-- LOAD_LENS_TABLES (R61). -/
  | loadLensTables (slot : Fin 32) (address : BitVec 32)
  /-- LENS_TABLE_READ_END (R62). -/
  | lensTableReadEnd (read : ReadEnd)
  /-- SET_TRACKING (R68). -/
  | setTracking (slot : Fin 32) (enable : Byte)
  /-- SHOT_PUSH (R70). -/
  | shotPush (slot : Fin 32)
  /-- SPILL_WRITE_END (R71). -/
  | spillWriteEnd (writes : BusEnd)
  /-- SHOT_RECALL (R72). -/
  | shotRecall (slot : Fin 32)
  /-- SPILL_READ_END (R71). -/
  | spillReadEnd (read : ReadEnd)
  /-- SHOT_PRESS_TIMER_EXPIRY (R74). -/
  | shotPressTimerExpiry
  /-- SHOT_CLEAR (R75). -/
  | shotClear (slot : Fin 32)
  /-- SET_SHOT_POLICY (R75). -/
  | setShotPolicy (slot : Fin 32) (policy : Byte)
  /-- STAB_SETTLED (R79): the 200th scan frame start in SETTLING. -/
  | stabSettled
  /-- PAN_ENTRY (R86): the gyro sample that puts `axis` into pan. -/
  | panEntry (axis : Axis) (code : BitVec 12)
  /-- PAN_EXIT (R86): the gyro sample that takes `axis` out of pan. -/
  | panExit (axis : Axis) (code : BitVec 12)
  /-- STAB_MODE (R91). -/
  | stabMode (slot : Fin 32) (mode : Byte)
  /-- STAB_PARAMS (R92). -/
  | stabParams (slot : Fin 32) (leak panLeak : BitVec 16) (deadBand : Byte) (panThreshold stroke : BitVec 16)
  /-- STAB_CALIBRATE (R89). -/
  | stabCalibrate (slot : Fin 32)
  /-- CALIBRATION_END (R89): the pitch sample of the 4,000th collection frame. -/
  | calibrationEnd (code : BitVec 12)
  /-- MOUNT_AFTER_RESET_START (R107). -/
  | mountAfterResetStart (card : CardSlot)
  /-- HEADER_READ_END (R97). -/
  | headerReadEnd (card : CardSlot) (answer : HeaderAnswer)
  /-- BLOCK_WRITE_END (R102). -/
  | blockWriteEnd (card : CardSlot) (answer : CardAnswer)
  /-- EXTENT_SOURCE_ERROR (R102). -/
  | extentSourceError (card : CardSlot)
  /-- INDEX_WRITE_END (R105). -/
  | indexWriteEnd (card : CardSlot) (answer : CardAnswer)
  /-- FORMAT_END (R106). -/
  | formatEnd (card : CardSlot) (answer : CardAnswer)
  /-- CARD_LINK_TIMEOUT (R94). -/
  | cardLinkTimeout (card : CardSlot)
  /-- FORMAT_CARD (R106). -/
  | formatCard (slot : Fin 32) (card : Byte)
  /-- REC_START (R112). -/
  | recStart (slot : Fin 32)
  /-- REC_STOP (R113). -/
  | recStop (slot : Fin 32)
  /-- REC_GUARD_EXPIRY (R114). -/
  | recGuardExpiry
  /-- WRITE_ESSENCE (R118); the count parameter is the number of extents. -/
  | writeEssence (slot : Fin 32) (extents : List ExtentParam)
  /-- CLEAR_HALT (R126). -/
  | clearHalt (slot : Fin 32)
  /-- MARK (R128). -/
  | mark (slot : Fin 32) (kind detail : Byte)
  /-- GOOD_PULSE_EXPIRY (R129). -/
  | goodPulseExpiry
  /-- SET_REC_MODE (R130). -/
  | setRecMode (slot : Fin 32) (mode preferred : Byte) (limit bitrate : BitVec 16)
  /-- LIST_CLIPS (R131). -/
  | listClips (slot : Fin 32) (start : Byte)
  /-- AUDIO_FRAME (R135): the four 24-bit two's complement samples, channels 1 to 4. -/
  | audioFrame (sample1 sample2 sample3 sample4 : BitVec 24)
  /-- SYNC_GAP_EXPIRY (R136). -/
  | syncGapExpiry
  /-- RECOVERY_TIMER_EXPIRY (R136). -/
  | recoveryTimerExpiry
  /-- MUTE_COUNT_EXPIRY (R144): the frame start at which the mute count of `channel` reaches 0. -/
  | muteCountExpiry (channel : Fin 4) (order : List Receiver)
  /-- LIMITER_RELEASE (R141): the frame start at which the release count of `channel` reaches 4. -/
  | limiterRelease (channel : Fin 4) (order : List Receiver)
  /-- AGC_RISE (R142): the frame start at which the AGC gain of `channel` rises. -/
  | agcRise (channel : Fin 4) (order : List Receiver)
  /-- CODEC_WRITE_END (R145). -/
  | codecWriteEnd
  /-- AUDIO_CONFIG (R146). -/
  | audioConfig (slot : Fin 32) (groups : List AudioParam)
  /-- AUDIO_LEVELS (R147); the 16-bit values are signed. -/
  | audioLevels (slot : Fin 32) (hold : Byte) (overLevel limit target : BitVec 16) (ceiling : Byte)
  /-- LINK_START (R150). -/
  | linkStart
  /-- LINK_STOP (R150). -/
  | linkStop
  /-- ADDRESS_BYTE (R150): a 7-bit address and a direction. -/
  | addressByte (address : BitVec 7) (read : Bool)
  /-- WRITE_DATA_BYTE (R152). -/
  | writeDataByte (byte : Byte)
  /-- READ_BYTE_ACKNOWLEDGE (R151): ACK or NACK of the byte sent. -/
  | readByteAcknowledge (ack : Bool)
  /-- WRITE_HOLD_TIMEOUT (R152). -/
  | writeHoldTimeout
  /-- DECODER_TAKE_BYTE (R153). -/
  | decoderTakeByte
  /-- POINTER (R154): the decoder's taking of the byte that completes this record. -/
  | pointer (offset : Byte)
  /-- ROCKER (R154): the decoder's taking of the byte that completes this record. -/
  | rocker (value : Byte)
  /-- FOCUS_DELTA (R155): the decoder's taking of the byte that completes this record. -/
  | focusDelta (delta : BitVec 16)
  /-- IRIS_DELTA (R155): the decoder's taking of the byte that completes this record. -/
  | irisDelta (delta : Byte)
  /-- BUTTON (R156): the decoder's taking of the byte that completes this record. -/
  | button (code state : Byte)
  /-- PANEL_KEY (R157): the decoder's taking of the byte that completes this record. -/
  | panelKey (key state : Byte)
  /-- ZOOM_HOLD_EXPIRY (R154). -/
  | zoomHoldExpiry
  /-- AXIS_HOLD_EXPIRY (R155). -/
  | axisHoldExpiry (axis : WheelAxis)
  /-- PRESENCE_TIMER_EXPIRY (R158). -/
  | presenceTimerExpiry
  /-- PAGE_REBUILD_COMPLETE (R159). -/
  | pageRebuildComplete
  /-- SET_VF_TEXT (R162). -/
  | setVfText (slot : Fin 32) (length : Byte) (chars : List Byte)
  /-- SET_VF_CONFIG (R163). -/
  | setVfConfig (slot : Fin 32) (address : Byte)
  deriving DecidableEq, Repr

end Sys2Proof
end

