-- ==== Sys2Proof/Decode.lean ====
section
/-! DEFINITION. The command that a word of the opcode table's bits spells. The table gives no row
any bits (98_reader.md: n_rows_with_fixed 0, n_rows_with_fields 0), so no word spells a command.
The bytes of a request in its slot are decoded in Sys2Proof/Machine/Request.lean. -/

namespace Sys2Proof

/-- The command a table word spells: none, since no row of the table gives bits. -/
def decodeTableWord (_nbits _w : Nat) : Option Instr := none

end Sys2Proof
end

