-- ==== Sys2Proof/Config.lean ====
section
/-! DEFINITION. The free values: what the spec leaves open and the part nevertheless produces.
None has a body, so nothing can be proved of what it is. Each is applied to the model's counter
`State.freeCount`, which moves on at every use. -/

namespace Sys2Proof

/-- A byte of a result field whose value the spec does not state (log 16). -/
opaque Config.freeByte : Nat → Byte

/-- The result bytes, and so the result length, of a request that ends in a way for which its rule
states no results (log 16). Only the first 240 bytes are used (section 11.6: result length 0–240). -/
opaque Config.freeResult : Nat → List Byte

/-- Whether the card answers DONE, in this tick of an idle run, to the block of a BLOCK_WRITE whose answer is
awaited while blocks remain to be sent (R94, log 22). -/
opaque Config.freeAnswer : Nat → Bool

/-- The order in which the receivers take a frame-start notice (R3) that the idle step delivers
(log 5). -/
opaque Config.freeOrder : Nat → List Receiver

end Sys2Proof
end

