-- ==== Sys2Proof/Machine/Types.lean ====
section
/-! DEFINITION. The state of each block of the CB5, as plain data: one structure per block, one field
per piece of state its chapter gives it. Times are in ticks of 27 MHz; a timer that is stopped is
`none`, and a running timer holds the ticks it has left, except where the docstring says that it
counts up. -/

namespace Sys2Proof.Machine

/-! ### Labels and stamps (R11, section 11.6) -/

/-- A time code label: hours, minutes, seconds, frames (R11). -/
structure Label where
  hours   : Nat
  minutes : Nat
  seconds : Nat
  frames  : Nat
  deriving DecidableEq, Repr

/-- A recorded label with its frame number N, reckoned at the frame rate code and drop mode in force
when it was recorded (section 11.6). -/
structure Stamp where
  label  : Label
  number : Nat
  deriving DecidableEq, Repr

/-- The eight frame rate codes (section 1.1). -/
inductive FrameRate where
  | r2398 | r24 | r25 | r2997 | r30 | r50 | r5994 | r60
  deriving DecidableEq, Repr

inductive LockState where
  | free | acquire | locked | holdover
  deriving DecidableEq, Repr

inductive TcMode where
  | freeRun | recRun
  deriving DecidableEq, Repr

/-- A pending preset: the label, the SET_TC slot that set it, and whether the label was moved (R16). -/
structure Preset where
  label    : Label
  slot     : Fin 32
  adjusted : Bool
  deriving DecidableEq, Repr

/-- The frame clock and time code unit (R1). `frameDue` is the model's own: the counter stands at the
last tick of the frame and the next tick has come. `prevEdge` holds the interval timer, which counts
up and stops at 2 × P (R4); `watchdog` counts up (R6). -/
structure Clock where
  rate       : FrameRate
  drop       : Bool
  slew       : Int
  period     : Nat
  counter    : Nat
  frameDue   : Bool
  genlock    : Bool
  lock       : LockState
  prevEdge   : Option Nat
  watchdog   : Option Nat
  missed     : Nat
  lockCount  : Nat
  unlockCount : Nat
  holdover   : Nat
  glitches   : Nat
  mismatches : Nat
  label      : Label
  delivered  : Option Label
  mode       : TcMode
  recorded   : Bool
  preset     : Option Preset
  deriving DecidableEq, Repr

/-! ### Lines, scan, power (Chapter 2) -/

/-- A line-edge record (R23); the line is the record's place. -/
structure LineEdge where
  rising : Bool
  stamp  : Stamp
  deriving DecidableEq, Repr

/-- One input line (R20). -/
structure Line where
  raw        : Bool
  debounced  : Bool
  debounce   : Nat
  timer      : Option Nat
  riseEnable : Bool
  fallEnable : Bool
  edge       : Option LineEdge
  deriving DecidableEq, Repr

/-- The converter scan (R25). `grants` are the channels granted in the scan frame in progress, in slot
order (R27); `due` is the model's own: a scan frame start is due. -/
structure Scan where
  code        : Nat
  requested   : Nat
  timer       : Nat
  due         : Bool
  grants      : List Channel
  altIris     : Bool
  pointer     : ClassC
  last        : Vector (Option Nat) 8
  unconverted : Vector Nat 4
  starved     : Vector Bool 4
  starvations : Nat
  deriving DecidableEq, Repr

inductive BatteryState where
  | normal | low | empty
  deriving DecidableEq, Repr

inductive PowerState where
  | dc | normal | low | empty
  deriving DecidableEq, Repr

/-- The power monitor (R31); samples oldest first, in mV. -/
structure Power where
  samples : List Nat
  filter  : Option Nat
  dc      : Bool
  battery : BatteryState
  state   : PowerState
  low     : Nat
  empty   : Nat
  deriving DecidableEq, Repr

/-! ### Lens drive (Chapter 3) -/

/-- The holder of the zoom or the iris (R37, R54). -/
inductive Holder where
  | none | operator | recall | host
  deriving DecidableEq, Repr

/-- The holder of the focus (R49). -/
inductive FocusHolder where
  | none | operator | recall | host | tracking
  deriving DecidableEq, Repr

/-- What a host zoom request asks for (R37). -/
inductive ZoomOrder where
  | move (target maxSpeed : Nat)
  | speed (value : Int) (left : Nat)
  deriving DecidableEq, Repr

/-- The host zoom record (R37). -/
structure HostZoom where
  slot     : Fin 32
  order    : ZoomOrder
  adjusted : Bool
  deriving DecidableEq, Repr

/-- A recall's claim on the zoom (R37, R72). -/
structure ZoomClaim where
  target   : Nat
  maxSpeed : Nat
  deriving DecidableEq, Repr

/-- The running stall window: reference Z and count (R48). -/
structure StallWindow where
  reference : Nat
  count     : Nat
  deriving DecidableEq, Repr

/-- The zoom part of the lens drive (R37). `duty` and `dirTele` are the values the applied speed gives;
`dutyPin` and `dirPinTele` are the ones in effect in the PWM period in progress (R47). -/
structure Zoom where
  z          : Option Nat
  wide       : Nat
  tele       : Nat
  softMin    : Nat
  softMax    : Nat
  rocker     : Int
  holder     : Holder
  host       : Option HostZoom
  recallClaim : Option ZoomClaim
  demand     : Int
  lagInhibit : Bool
  applied    : Int
  wideFlag   : Bool
  teleFlag   : Bool
  stall      : Option StallWindow
  stallCut   : Bool
  duty       : Nat
  dirTele    : Bool
  pwmCount   : Nat
  dutyPin    : Nat
  dirPinTele : Bool
  deriving DecidableEq, Repr

inductive FocusState where
  | unreferenced | referencing | idle | moving | fault
  deriving DecidableEq, Repr

/-- The host focus record (R49). -/
structure HostFocus where
  slot     : Fin 32
  target   : Nat
  rate     : Nat
  adjusted : Bool
  deriving DecidableEq, Repr

/-- The focus part of the lens drive (R49), with the stepper's outputs (R59). `pos` is `none` while the position is
undefined. `stepsOut` counts the steps given on the step output, and `stepNear` is the direction output, set where the
last step led away from 0, toward the near end (DESIGN CHOICE, log 57: their values before the first step, and what is
kept between steps). `phase` is the model's own: the part of the step interval that has passed, in ticks times steps
per ms. -/
structure Focus where
  state    : FocusState
  pos      : Option Nat
  target   : Nat
  rate     : Nat
  holder   : FocusHolder
  host     : Option HostFocus
  refSteps : Nat
  near     : Nat
  stepsOut : Nat
  stepNear : Bool
  phase    : Nat
  deriving DecidableEq, Repr

/-- The host iris record (R54). -/
structure HostIris where
  slot     : Fin 32
  target   : Nat
  adjusted : Bool
  deriving DecidableEq, Repr

/-- The iris part of the lens drive (R54). `early` holds the deltas and `recallTarget` the recall target
taken before the first iris position. -/
structure Iris where
  pos          : Option Nat
  command      : Option Nat
  target       : Option Nat
  holder       : Holder
  host         : Option HostIris
  settle       : Nat
  early        : List Int
  recallTarget : Option Nat
  deriving DecidableEq, Repr

inductive LensAxis where
  | zoom | focus | iris
  deriving DecidableEq, Repr

/-- The conflict record (R42): the source is the kind of the refused request. -/
structure Conflict where
  axis   : LensAxis
  source : Nat
  stamp  : Stamp
  deriving DecidableEq, Repr

/-! ### Tracking and shot stack (Chapter 4) -/

/-- The tracking block (R60). The tracking table is row-major, 9 rows of 17 knots. -/
structure Tracking where
  focal       : List Nat
  table       : Option (List Nat)
  d           : Nat
  on          : Bool
  lastZ       : Option Nat
  focalLength : Nat
  lag         : Nat
  load        : Option (Fin 32)
  deriving DecidableEq, Repr

/-- One shot (R69). -/
structure Shot where
  z        : Nat
  focus    : Nat
  d        : Nat
  iris     : Nat
  tracking : Bool
  deriving DecidableEq, Repr

/-- Where a push or a recall comes from (R70, R72). -/
inductive ShotSource where
  | request (slot : Fin 32)
  | press
  | cue (channel : Fin 4)
  deriving DecidableEq, Repr

/-- A recall whose moves have begun (R72, R73): its entry and which axes have settled. -/
structure Recall where
  source    : ShotSource
  entry     : Shot
  adjusted  : Bool
  zoomDone  : Bool
  focusDone : Bool
  irisDone  : Bool
  deriving DecidableEq, Repr

/-- The shot stack's operation in flight (R69). -/
inductive ShotOp where
  | push (source : ShotSource)
  | reading (source : ShotSource)
  | moving (shot : Recall)
  deriving DecidableEq, Repr

/-- A spill transfer on the bus (R71): a write carries its entry. `live` is clear when its outcome is no
longer observed (R69, R73). -/
structure SpillTransfer where
  address : Nat
  entry   : Option Shot
  live    : Bool
  deriving DecidableEq, Repr

inductive PressSource where
  | line | viewfinder
  deriving DecidableEq, Repr

/-- A running press timing (R74). -/
structure PressTiming where
  source : PressSource
  timer  : Option Nat
  pushed : Bool
  deriving DecidableEq, Repr

/-- The shot stack (R69); banks oldest first. -/
structure Shots where
  banks     : List Shot
  spill     : Nat
  refuse    : Bool
  op        : Option ShotOp
  transfers : List SpillTransfer
  press     : Option PressTiming
  deriving DecidableEq, Repr

/-! ### Stabiliser (Chapter 5) -/

inductive StabState where
  | off | settling | active | panning | held | calibrating
  deriving DecidableEq, Repr

inductive StabMode where
  | off | on | held
  deriving DecidableEq, Repr

/-- What a calibration has collected on one axis (R89). -/
structure Collected where
  sum : Nat
  low : Nat
  high : Nat
  deriving DecidableEq, Repr

/-- The calibration record (R77, R89). -/
structure Calibration where
  slot   : Fin 32
  frames : Nat
  yaw    : Collected
  pitch  : Collected
  deriving DecidableEq, Repr

/-- One stabiliser axis (R77). -/
structure StabAxis where
  bias       : Int
  acc        : Int
  drive      : Int
  last       : Option Nat
  inPan      : Bool
  rateCount  : Nat
  satCount   : Nat
  quietCount : Nat
  saturated  : Bool
  deriving DecidableEq, Repr

/-- The stabiliser (R77). -/
structure Stab where
  state        : StabState
  mode         : StabMode
  powerEmpty   : Bool
  settling     : Nat
  cal          : Option Calibration
  leak         : Nat
  panLeak      : Nat
  deadBand     : Nat
  panThreshold : Nat
  stroke       : Nat
  focal        : Nat
  yaw          : StabAxis
  pitch        : StabAxis
  deriving DecidableEq, Repr

/-! ### Record engine and media controller (Chapters 6 and 7) -/

inductive MarkKind where
  | good | cue | audioOver | audioSwitch | batteryLow | relay | degraded
  deriving DecidableEq, Repr

/-- A mark (R110); the detail is absent for GOOD and RELAY. -/
structure Mark where
  kind   : MarkKind
  offset : Nat
  detail : Option Nat
  deriving DecidableEq, Repr

/-- A span of a clip (R110): the first block is absent until the first extent is queued to it. -/
structure Span where
  card   : CardSlot
  first  : Option Nat
  blocks : Nat
  deriving DecidableEq, Repr

inductive StopReason where
  | request | operator | cue | lowPower | mediaFull | spanLimit | dayLimit
  deriving DecidableEq, Repr

inductive ClipState where
  | opened | closing | closed | broken
  deriving DecidableEq, Repr

/-- A clip record (R110). `serial` is the model's own: it tells records of one number apart (log 23). -/
structure Clip where
  serial     : Nat
  number     : Nat
  state      : ClipState
  start      : Label
  endLabel   : Option Label
  frames     : Nat
  spans      : List Span
  marks      : List Mark
  preRecord  : Bool
  degraded   : Bool
  marksFull  : Bool
  indexLostA : Bool
  indexLostB : Bool
  erased     : Bool
  reason     : Option StopReason
  deriving DecidableEq, Repr

/-- An index record as an index request carries it (R104). -/
structure IndexRecord where
  number    : Nat
  start     : Label
  endLabel  : Label
  frames    : Nat
  spans     : List Span
  preRecord : Bool
  degraded  : Bool
  marksFull : Bool
  marks     : List Mark
  deriving DecidableEq, Repr

/-- An extent held or returned: its request slot, place in the request, address, length and frames
(R109, R103). -/
structure Extent where
  slot    : Fin 32
  place   : Nat
  address : Nat
  length  : Nat
  frames  : Nat
  deriving DecidableEq, Repr

/-- An entry of a card's write queue (R94): the extent and the blocks reserved for it. -/
structure QueueEntry where
  extent : Extent
  first  : Nat
  blocks : Nat
  deriving DecidableEq, Repr

inductive CardState where
  | empty | mounting | ready | active | full | protect | formatting | fault
  deriving DecidableEq, Repr

inductive LinkOpKind where
  | headerRead | blockWrite | indexWrite | format
  deriving DecidableEq, Repr

/-- The updated header that an INDEX_WRITE sends (R104). -/
structure CardHeader where
  committed  : Nat
  indexCount : Nat
  lastClip   : Nat
  deriving DecidableEq, Repr

/-- A link operation in flight (R94): the time left to its limit, for a BLOCK_WRITE the blocks still to be sent
after the one whose answer is awaited, for an INDEX_WRITE the updated header it carries (R104), and whether its
answer is observed (R107). -/
structure LinkOp where
  kind     : LinkOpKind
  left     : Nat
  unsent   : Nat
  header   : Option CardHeader
  observed : Bool
  deriving DecidableEq, Repr

/-- One card slot of the media controller (R94). -/
structure Card where
  state      : CardState
  capacity   : Nat
  committed  : Nat
  reserved   : Nat
  indexCount : Nat
  lastClip   : Nat
  queue      : List QueueEntry
  op         : Option LinkOp
  index      : Option IndexRecord
  format     : Option (Fin 32)
  deriving DecidableEq, Repr

inductive RecState where
  | standby | prerec | arming | recording | stopping | halted
  deriving DecidableEq, Repr

inductive StopPhase where
  | draining | indexing
  deriving DecidableEq, Repr

/-- The source of a pending start (R109, R112). -/
inductive StartSource where
  | request (slot : Fin 32)
  | operator
  | cue
  deriving DecidableEq, Repr

/-- The state of one side of an extent (R118). -/
inductive Side where
  | none | queued | written | failed
  deriving DecidableEq, Repr

inductive ExtentOutcome where
  | writtenA | writtenB | writtenBoth | discarded | lost
  deriving DecidableEq, Repr

/-- What an essence record holds for one extent (R118). `record` is the serial of the clip record whose number is
`clip`, while there is one (log 23). -/
structure EssenceExtent where
  outcome : Option ExtentOutcome
  clip    : Nat
  record  : Option Nat
  sideA   : Side
  sideB   : Side
  deriving DecidableEq, Repr

/-- The essence record of one WRITE_ESSENCE (R118). -/
structure Essence where
  slot      : Fin 32
  unsettled : Nat
  extents   : List EssenceExtent
  deriving DecidableEq, Repr

/-- The record engine (R109). `opened` counts the clips opened, for their serials (log 23). The open clip is the
record of `clips` that is OPEN or CLOSING. `awaitA` and `awaitB` are set while that card owes an index answer (R125). -/
structure Recorder where
  state        : RecState
  phase        : Option StopPhase
  mirror       : Bool
  preferred    : CardSlot
  limit        : Nat
  bitrate      : Nat
  nextClip     : Nat
  opened       : Nat
  clips        : List Clip
  targetA      : Bool
  targetB      : Bool
  held         : List Extent
  after        : List Extent
  pendingStart : Option StartSource
  restart      : Bool
  pendingStop  : Option StopReason
  stopReq      : Option (Fin 32)
  essences     : List Essence
  awaitA       : Bool
  awaitB       : Bool
  guardTimer   : Option Nat
  powerEmpty   : Bool
  pulse        : Option Nat
  deriving DecidableEq, Repr

/-! ### Audio (Chapter 8) -/

inductive AudioSource where
  | intMic | extMic | line
  deriving DecidableEq, Repr

inductive GainMode where
  | pot | host | auto
  deriving DecidableEq, Repr

/-- What a codec write carries (R145). -/
inductive CodecValue where
  | gain (code : Nat)
  | mute (on : Bool)
  | input (source : AudioSource) (phantom : Bool)
  deriving DecidableEq, Repr

/-- An item of the codec write queue (R145). -/
structure CodecItem where
  channel : Fin 4
  value   : CodecValue
  deriving DecidableEq, Repr

/-- One audio channel (R134), with the last gain made pending (R145). -/
structure AudioChannel where
  source    : AudioSource
  phantom   : Bool
  mode      : GainMode
  hostGain  : Nat
  pot       : Option Nat
  peak      : Option Nat
  level     : Int
  held      : Int
  holdCount : Nat
  overFlag  : Bool
  spacing   : Nat
  reduction : Nat
  release   : Nat
  agc       : Nat
  quiet     : Nat
  mute      : Nat
  applied   : Nat
  lastGain  : Nat
  deriving DecidableEq, Repr

/-- The audio level controller (R134). `gap` and `recovery` count up. -/
structure Audio where
  lost           : Bool
  gap            : Nat
  recovery       : Option Nat
  holdTime       : Nat
  overThreshold  : Int
  limitThreshold : Int
  target         : Int
  ceiling        : Nat
  queue          : List CodecItem
  inFlight       : Option CodecItem
  channels       : Vector AudioChannel 4
  deriving DecidableEq, Repr

/-! ### Viewfinder link and operator controls (Chapter 9) -/

/-- The target states (R149). HOLD is a write hold with the byte held, or a read hold. -/
inductive TargetState where
  | idle | addressedWrite | addressedRead | holdWrite (byte : Byte) | holdRead | ignore
  deriving DecidableEq, Repr

/-- The end boundary of a transaction (R152). -/
inductive Boundary where
  | finish | overrun
  deriving DecidableEq, Repr

/-- The decoder state (R153). -/
inductive DecoderState where
  | atType
  | inRecord (bytes : List Byte)
  | discarding
  deriving DecidableEq, Repr

/-- The zoom hold (R149, R154). -/
inductive ZoomHold where
  | none | held | timing (left : Nat)
  deriving DecidableEq, Repr

/-- The set of held viewfinder buttons (R149, R156). -/
structure Buttons where
  record     : Bool
  goodShot   : Bool
  shot       : Bool
  stabToggle : Bool
  deriving DecidableEq, Repr

/-- A panel key record (R157). -/
structure PanelKey where
  key     : Byte
  pressed : Bool
  stamp   : Stamp
  deriving DecidableEq, Repr

inductive PageBuffer where
  | x | y
  deriving DecidableEq, Repr

/-- The building buffer state (R149, R159). -/
inductive BuildState where
  | idle | building (left : Nat) | waiting
  deriving DecidableEq, Repr

/-- The viewfinder link and operator controls (R149). `sentByte` and `ack` are the model's record of the
last byte and the last acknowledge that the target gave on the link. -/
structure Viewfinder where
  address   : Nat
  target    : TargetState
  writing   : Bool
  reading   : Bool
  pointer   : Nat
  holdTimer : Option Nat
  fifo      : List (Byte × Option Boundary)
  heldMarks : List Boundary
  decoder   : DecoderState
  present   : Bool
  presence  : Option Nat
  rocker    : Int
  zoomHold  : ZoomHold
  focusHold : Option Nat
  irisHold  : Option Nat
  buttons   : Buttons
  keys      : List PanelKey
  drops     : Nat
  pageX     : List Byte
  pageY     : List Byte
  shown     : Option PageBuffer
  build     : BuildState
  version   : Nat
  text      : List Byte
  overruns  : Nat
  errors    : Nat
  sentByte  : Byte
  ack       : Bool
  deriving DecidableEq, Repr

/-! ### Cues and events (Chapter 10) -/

/-- A cue's source with its value (R165). -/
inductive CueSource where
  | tc (value : Label)
  | zoom (value : Nat)
  | focus (value : Nat)
  | clipFrames (value : Nat)
  deriving DecidableEq, Repr

/-- The match-any flags of a TC cue (R165). -/
structure CueMask where
  hours   : Bool
  minutes : Bool
  seconds : Bool
  frames  : Bool
  deriving DecidableEq, Repr

inductive CueCondition where
  | crossUp | crossDown | crossAny
  deriving DecidableEq, Repr

inductive CueAction where
  | eventOnly | recStart | recStop | markCue | shotPush | shotRecall
  deriving DecidableEq, Repr

/-- One cue channel record (R165). -/
structure Cue where
  enable    : Bool
  source    : CueSource
  mask      : CueMask
  condition : CueCondition
  action    : CueAction
  once      : Bool
  lastFired : Option Stamp
  taken     : Bool
  previous  : Option Nat
  firedClip : Bool
  deriving DecidableEq, Repr

/-- The 25 event classes in bit order (R171). -/
inductive EventClass where
  | slotMisuse | workAreaFault | refState | cueFired | cardA | cardB | recState | relay | mediaFault
  | clipClosed | batteryLow | batteryEmpty | audioOver | audioInput | stabState | stabSaturation
  | shotStack | lensLimit | lensFault | trackLag | vfPresence | vfKey | controlConflict | lineEdge | diag
  deriving DecidableEq, Repr

/-- The event unit (R171, R173). -/
structure Events where
  latches : BitVec 25
  levels  : Vector Nat 25
  alert   : Bool
  deriving DecidableEq, Repr

/-! ### Request slots (Chapter 11) -/

/-- The status codes (section 11.5). -/
inductive Status where
  | pending | ok | okAdjusted | preempted | cancelled | busy | badValue | malformed | overridden
  | noMedia | lowPower | mediaFault | discarded | partially | stackFull | stackEmpty | tableInvalid
  | motion | noTable | stalled | noClip
  deriving DecidableEq, Repr

/-- A slot's state (R178). `waiting`, `started`, `running` and `completing` are the spec's TAKEN: waiting
in a lane queue, or in progress. In progress, a request is `started` until its serving block has run
it, `running` until the block completes it, and `completing` while its completion writes are made. -/
inductive SlotState where
  | free | posted | waiting | started | running | completing | done
  deriving DecidableEq, Repr

/-- A request slot: its state and, while TAKEN, the request it holds, as the command that serves it. -/
structure Slot where
  state   : SlotState
  request : Option Instr
  deriving DecidableEq, Repr

/-- A completion handed to the slot unit, with the base its writes start under (R177, R181). `label` is the
completion label where one is fixed: the preset label of SET_TC (R19), or the label of writes that a controller
reset lets finish; otherwise the label is the one last delivered when the completion is written. `live` is clear
when a controller reset has abandoned it (R184). -/
structure Completion where
  slot   : Fin 32
  base   : BusWord
  status : Status
  result : List Byte
  label  : Option Label
  live   : Bool
  deriving DecidableEq, Repr

/-- The request slot unit (R176 to R184). `order` lists the slots in the order in which their requests were last
taken (R180), and `lanes` those that wait. -/
structure SlotUnit where
  enable      : Bool
  alertLevel  : Nat
  doneAlert   : Bool
  workBase    : BusWord
  done        : BusWord
  slots       : Vector Slot 32
  fetchQueue  : List (Fin 32)
  fetching    : Option (Fin 32)
  lanes       : Vector (List (Fin 32)) 7
  order       : List (Fin 32)
  completions : List Completion
  misuse      : Nat
  deriving DecidableEq, Repr

end Sys2Proof.Machine
end

