-- ==== Sys2Proof/Machine/Tables.lean ====
section
/-! DEFINITION. The fixed tables of the spec: frame rates, line defaults, event levels, codes, the
built-in focal table and the durations, in ticks of 27 MHz. -/

namespace Sys2Proof.Machine

/-! ### Durations -/

/-- Ticks of 27 MHz in one millisecond. -/
def ticksPerMs : Nat := 27000

/-- A scan frame, 500 µs (R26). -/
def scanFrameTicks : Nat := 13500

/-- A page rebuild, 1.5 ms (R153, R159). -/
def rebuildTicks : Nat := 40500

/-- Operator input hold, 500 ms (R154, R155). -/
def holdTicks : Nat := 500 * ticksPerMs

/-- Write hold limit, 2 ms (R152). -/
def writeHoldTicks : Nat := 2 * ticksPerMs

/-- Presence timer, 200 ms (R158). -/
def presenceTicks : Nat := 200 * ticksPerMs

/-- REC guard, 500 ms (R114). -/
def guardTicks : Nat := 500 * ticksPerMs

/-- GOOD pulse, 200 ms (R129). -/
def pulseTicks : Nat := 200 * ticksPerMs

/-- SHOT press timing, 1 s (R74). -/
def pressTicks : Nat := 1000 * ticksPerMs

/-- Sync gap limit, 1 ms (R136). -/
def gapTicks : Nat := ticksPerMs

/-- Recovery timer, 10 ms (R136). -/
def recoveryTicks : Nat := 10 * ticksPerMs

/-! ### Frame rates (section 1.1) -/

/-- The frame rate code carried by SET_VIDEO_FORMAT and the snapshot. -/
def FrameRate.code : FrameRate → Nat
  | .r2398 => 0 | .r24 => 1 | .r25 => 2 | .r2997 => 3 | .r30 => 4 | .r50 => 5 | .r5994 => 6 | .r60 => 7

/-- The frame rate of a code 0–7. -/
def FrameRate.ofCode : Nat → Option FrameRate
  | 0 => some .r2398 | 1 => some .r24 | 2 => some .r25 | 3 => some .r2997 | 4 => some .r30
  | 5 => some .r50 | 6 => some .r5994 | 7 => some .r60 | _ => none

/-- The nominal label rate n. -/
def FrameRate.labelRate : FrameRate → Nat
  | .r2398 => 24 | .r24 => 24 | .r25 => 25 | .r2997 => 30 | .r30 => 30 | .r50 => 50 | .r5994 => 60
  | .r60 => 60

/-- The nominal period P in ticks. -/
def FrameRate.period : FrameRate → Nat
  | .r2398 => 1126125 | .r24 => 1125000 | .r25 => 1080000 | .r2997 => 900900 | .r30 => 900000
  | .r50 => 540000 | .r5994 => 450450 | .r60 => 450000

/-- The labels dropped, d, with the codes that allow drop mode. -/
def FrameRate.dropCount : FrameRate → Option Nat
  | .r2997 => some 2 | .r5994 => some 4
  | .r2398 => none | .r24 => none | .r25 => none | .r30 => none | .r50 => none | .r60 => none

/-! ### Event classes (R171) -/

/-- The bit of a class in the EVENTS register. -/
def EventClass.bit : EventClass → Fin 25
  | .slotMisuse => 0 | .workAreaFault => 1 | .refState => 2 | .cueFired => 3 | .cardA => 4 | .cardB => 5
  | .recState => 6 | .relay => 7 | .mediaFault => 8 | .clipClosed => 9 | .batteryLow => 10
  | .batteryEmpty => 11 | .audioOver => 12 | .audioInput => 13 | .stabState => 14
  | .stabSaturation => 15 | .shotStack => 16 | .lensLimit => 17 | .lensFault => 18 | .trackLag => 19
  | .vfPresence => 20 | .vfKey => 21 | .controlConflict => 22 | .lineEdge => 23 | .diag => 24

/-- The default levels, in bit order. -/
def defaultLevels : Vector Nat 25 :=
  #v[4, 14, 6, 5, 8, 8, 9, 10, 13, 7, 9, 13, 5, 8, 3, 2, 4, 2, 11, 3, 6, 7, 4, 5, 6]

/-! ### Codes -/

/-- The status code (section 11.5). -/
def Status.code : Status → Nat
  | .pending => 0 | .ok => 1 | .okAdjusted => 2 | .preempted => 3 | .cancelled => 4 | .busy => 5
  | .badValue => 6 | .malformed => 7 | .overridden => 8 | .noMedia => 9 | .lowPower => 10
  | .mediaFault => 11 | .discarded => 12 | .partially => 13 | .stackFull => 14 | .stackEmpty => 15
  | .tableInvalid => 16 | .motion => 17 | .noTable => 18 | .stalled => 19 | .noClip => 20

/-- The card state code of FORMAT_CARD's results (R106). -/
def CardState.code : CardState → Nat
  | .empty => 0 | .mounting => 1 | .ready => 2 | .active => 3 | .full => 4 | .protect => 5
  | .formatting => 6 | .fault => 7

/-- The record state code of CLEAR_HALT's result (R126). -/
def RecState.code : RecState → Nat
  | .standby => 0 | .prerec => 1 | .arming => 2 | .recording => 3 | .stopping => 4 | .halted => 5

/-- The stop reason code of REC_STOP's results (R113). -/
def StopReason.code : StopReason → Nat
  | .request => 1 | .operator => 2 | .cue => 3 | .lowPower => 4 | .mediaFull => 5 | .spanLimit => 6
  | .dayLimit => 7

/-- The clip state code of the clip summary (section 11.6). -/
def ClipState.code : ClipState → Nat
  | .opened => 0 | .closing => 1 | .closed => 2 | .broken => 3

/-- The extent outcome code of WRITE_ESSENCE's results (R124). -/
def ExtentOutcome.code : ExtentOutcome → Nat
  | .writtenA => 0 | .writtenB => 1 | .writtenBoth => 2 | .discarded => 3 | .lost => 4

/-- The stabiliser state code of STAB_MODE's result (R91). -/
def StabState.code : StabState → Nat
  | .off => 0 | .settling => 1 | .active => 2 | .panning => 3 | .held => 4 | .calibrating => 5

/-- The stabiliser mode code of STAB_MODE's parameter (R91). -/
def StabMode.code : StabMode → Nat
  | .off => 0 | .on => 1 | .held => 2

/-- The power state code of SET_POWER_LIMITS' result (R35). -/
def PowerState.code : PowerState → Nat
  | .dc => 0 | .normal => 1 | .low => 2 | .empty => 3

/-- The lock state code of the snapshot (section 11.6). -/
def LockState.code : LockState → Nat
  | .free => 0 | .acquire => 1 | .locked => 2 | .holdover => 3

/-- The focus state code of the snapshot, in R49 order (section 11.6). -/
def FocusState.code : FocusState → Nat
  | .unreferenced => 0 | .referencing => 1 | .idle => 2 | .moving => 3 | .fault => 4

/-- The source code of AUDIO_CONFIG (R146). -/
def AudioSource.code : AudioSource → Nat
  | .intMic => 0 | .extMic => 1 | .line => 2

/-- The gain mode code of AUDIO_CONFIG (R146). -/
def GainMode.code : GainMode → Nat
  | .pot => 0 | .host => 1 | .auto => 2

/-- The slot code of SET_REC_MODE and FORMAT_CARD: 0 A, 1 B. -/
def cardCode : CardSlot → Nat
  | .a => 0 | .b => 1

/-- The other card slot. -/
def otherCard : CardSlot → CardSlot
  | .a => .b | .b => .a

/-- The axis code of the conflict record in the snapshot, in R42 order. -/
def LensAxis.code : LensAxis → Nat
  | .zoom => 0 | .focus => 1 | .iris => 2

/-- The source code of SET_CUE (R170). -/
def CueSource.code : CueSource → Nat
  | .tc _ => 0 | .zoom _ => 1 | .focus _ => 2 | .clipFrames _ => 3

/-- The condition code of SET_CUE (R170). -/
def CueCondition.code : CueCondition → Nat
  | .crossUp => 0 | .crossDown => 1 | .crossAny => 2

/-- The action code of SET_CUE (R170). -/
def CueAction.code : CueAction → Nat
  | .eventOnly => 0 | .recStart => 1 | .recStop => 2 | .markCue => 3 | .shotPush => 4 | .shotRecall => 5

/-! ### Channels, lanes -/

/-- The channel number, 0 to 7. -/
def channelIndex : Channel → Fin 8
  | .yawGyro => 0 | .pitchGyro => 1 | .zoomPos => 2 | .irisHall => 3 | .battery => 4 | .dcInput => 5
  | .pot1 => 6 | .pot2 => 7

/-- The place of a class C channel among the four. -/
def classCIndex : ClassC → Fin 4
  | .battery => 0 | .dcInput => 1 | .pot1 => 2 | .pot2 => 3

/-- The class C channel at a place, wrapping after the last (R27). -/
def classCAt (i : Nat) : ClassC :=
  match i % 4 with
  | 0 => .battery | 1 => .dcInput | 2 => .pot1 | _ => .pot2

/-- The converter channel of a class C channel. -/
def classCChannel : ClassC → Channel
  | .battery => .battery | .dcInput => .dcInput | .pot1 => .pot1 | .pot2 => .pot2

/-- The place of a lane among the seven. -/
def laneIndex : LaneId → Fin 7
  | .system => 0 | .lens => 1 | .stab => 2 | .record => 3 | .essence => 4 | .audio => 5 | .display => 6

/-- The lanes that serve one request at a time (R180). -/
def laneIsSerial : LaneId → Bool
  | .system => true | .lens => false | .stab => true | .record => true | .essence => false
  | .audio => true | .display => true

/-! ### Lines and lens -/

/-- The default debounce times of lines 0 to 6, in ms (section 2.1). -/
def defaultDebounce : Vector Nat 7 := #v[100, 100, 50, 50, 20, 20, 0]

/-- The built-in focal table, in µm (R60). -/
def builtInFocal : List Nat :=
  [8000, 9700, 11800, 14300, 17300, 21000, 25500, 30900, 37500, 45500, 55200, 66900, 81200, 98500,
   119400, 144900, 176000]

/-- The number of conversion slots that fit in a scan frame at a divider code: a conversion takes
16 × 2^k × 62.5 ns = 2^k µs, and a scan frame 500 µs (R26). -/
def slotsPerFrame (code : Nat) : Nat := 500 / 2 ^ code

/-- The class C grants of a frame with `n` slots left for them, from the pointer on: at most one per
channel (R27). -/
def classCGrants (pointer : ClassC) (n : Nat) : List ClassC :=
  (List.range (min n 4)).map fun i => classCAt ((classCIndex pointer).val + i)

/-- The grants of a scan frame, in slot order (R27). -/
def frameGrants (code : Nat) (altIris : Bool) (pointer : ClassC) : List Channel :=
  let slots := slotsPerFrame code
  let classB := if slots ≥ 4 then [.zoomPos, .irisHall] else if altIris then [.irisHall] else [.zoomPos]
  [.yawGyro, .pitchGyro] ++ classB ++ (classCGrants pointer (slots - 4)).map classCChannel

end Sys2Proof.Machine
end

