-- ==== Sys2Proof/Machine/Operands.lean ====
section
/-! DEFINITION. The operand forms and the arithmetic of the spec's conventions (00_scope.md): clamps,
quotients, rounding, little-endian fields, packed bits. -/

namespace Sys2Proof.Machine

/-- The lowest value of the range below it, the highest above it, unchanged otherwise. -/
def clampNat (low high x : Nat) : Nat := max low (min high x)

/-- `clampNat` on signed values. -/
def clampInt (low high x : Int) : Int := max low (min high x)

/-- The sign of a quantity: +1, 0 or −1. -/
def signOf (x : Int) : Int := if x > 0 then 1 else if x < 0 then -1 else 0

/-- The nearest integer to p ÷ q with a half rounded away from zero (R82): sign(p) × ((|p| + q div 2)
div q). -/
def roundAway (p : Int) (q : Nat) : Int := signOf p * (((p.natAbs + q / 2) / q : Nat) : Int)

/-- A counter that holds at 65,535. -/
def countUp (n : Nat) : Nat := min (n + 1) 65535

/-- A byte of a value (its low 8 bits; two's complement for a negative one). -/
def byteOf (x : Int) : Byte := BitVec.ofInt 8 x

/-- The low `n` bytes of a value, least significant first. -/
def littleEndian : Nat → Int → List Byte
  | 0, _ => []
  | n + 1, x => byteOf x :: littleEndian n (x / 256)

/-- A 16-bit field. -/
def field16 (x : Int) : List Byte := littleEndian 2 x

/-- A 24-bit field. -/
def field24 (x : Int) : List Byte := littleEndian 3 x

/-- A 32-bit field. -/
def field32 (x : Int) : List Byte := littleEndian 4 x

/-- The value of bytes given least significant first. -/
def bytesValue : List Byte → Nat
  | [] => 0
  | b :: rest => b.toNat + 256 * bytesValue rest

/-- The unsigned field of `n` bytes at `offset`. -/
def fieldAt (bytes : List Byte) (offset n : Nat) : Nat := bytesValue ((bytes.drop offset).take n)

/-- The byte at an offset, 0 beyond the end. -/
def byteAt (bytes : List Byte) (offset : Nat) : Byte := bytes.getD offset 0

/-- The two bytes of a 16-bit field, least significant first. -/
def wordBytes (w : BitVec 16) : List Byte := [w.extractLsb' 0 8, w.extractLsb' 8 8]

/-- The four bytes of a 32-bit field, least significant first. -/
def longBytes (w : BitVec 32) : List Byte :=
  [w.extractLsb' 0 8, w.extractLsb' 8 8, w.extractLsb' 16 8, w.extractLsb' 24 8]

/-- The 16-bit field at an offset. -/
def wordAt (bytes : List Byte) (offset : Nat) : BitVec 16 := byteAt bytes (offset + 1) ++ byteAt bytes offset

/-- The 32-bit field at an offset. -/
def longAt (bytes : List Byte) (offset : Nat) : BitVec 32 :=
  wordAt bytes (offset + 2) ++ wordAt bytes offset

/-- 1 for true, 0 for false. -/
def bit (b : Bool) : Nat := if b then 1 else 0

/-- Fields packed into one byte: each value at its shift. -/
def packed (fields : List (Nat × Nat)) : Byte :=
  byteOf ((fields.foldl (fun acc f => acc + f.1 * 2 ^ f.2) 0 : Nat) : Int)

/-- The four bytes of a label: hours, minutes, seconds, frames (section 11.6). -/
def labelBytes (l : Label) : List Byte :=
  [byteOf l.hours, byteOf l.minutes, byteOf l.seconds, byteOf l.frames]

/-- A label given as a frame number with a flag in bit 23; 0xFFFFFF marks an absent record
(section 11.6). -/
def stampBytes (record : Option (Stamp × Bool)) : List Byte :=
  match record with
  | none => field24 0xFFFFFF
  | some (stamp, flag) => field24 ((stamp.number % 2 ^ 23 + bit flag * 2 ^ 23 : Nat) : Int)

/-- The frame clock's label of a parameter or of a cue value: four bytes as fields. -/
def labelOfBytes (hours minutes seconds frames : Byte) : Label :=
  ⟨hours.toNat, minutes.toNat, seconds.toNat, frames.toNat⟩

/-- The battery percent of a filter value under an EMPTY threshold; 0 while the filter is absent (R34). -/
def batteryPercent (filter : Option Nat) (empty : Nat) : Nat :=
  match filter with
  | none => 0
  | some f => (clampInt 0 100 ((((f : Int) - empty) * 100).tdiv (16800 - empty))).toNat

end Sys2Proof.Machine
end

