-- ==== Sys2Proof/Machine/PowerOn.lean ====
section
/-! DEFINITION. The value of each block's state after power-on reset, before the initial level reports
(R1, R20, R25, R31, R37, R49, R54, R60, R69, R77, R94, R109, R134, R149, R165, R171, R176). -/

namespace Sys2Proof.Machine

def Label.zero : Label := ⟨0, 0, 0, 0⟩

def Clock.powerOn : Clock where
  rate := .r25
  drop := false
  slew := 0
  period := 1080000
  counter := 0
  frameDue := false
  genlock := false
  lock := .free
  prevEdge := none
  watchdog := none
  missed := 0
  lockCount := 0
  unlockCount := 0
  holdover := 0
  glitches := 0
  mismatches := 0
  label := Label.zero
  delivered := none
  mode := .freeRun
  recorded := false
  preset := none

/-- A line after the release of a reset: raw and debounced level as sampled, the default debounce time
(R20). -/
def Line.sampled (level : Bool) (debounce : Nat) : Line where
  raw := level
  debounced := level
  debounce := debounce
  timer := none
  riseEnable := false
  fallEnable := false
  edge := none

/-- The seven lines with the pins sampled at `pins` (R20). -/
def linesSampled (pins : BitVec 7) : Vector Line 7 :=
  Vector.ofFn fun i => Line.sampled (pins.getLsbD i.val) defaultDebounce[i]

/-- R25; the scan frame that begins at the release of RESET has the grants of code 5 (log 13). -/
def Scan.powerOn : Scan where
  code := 5
  requested := 5
  timer := 0
  due := false
  grants := frameGrants 5 false .battery
  altIris := false
  pointer := .battery
  last := Vector.replicate 8 none
  unconverted := Vector.replicate 4 0
  starved := Vector.replicate 4 false
  starvations := 0

def Power.powerOn : Power where
  samples := []
  filter := none
  dc := false
  battery := .normal
  state := .normal
  low := 13200
  empty := 11500

def Zoom.powerOn : Zoom where
  z := none
  wide := 200
  tele := 3900
  softMin := 0
  softMax := 4095
  rocker := 0
  holder := .none
  host := none
  recallClaim := none
  demand := 0
  lagInhibit := false
  applied := 0
  wideFlag := false
  teleFlag := false
  stall := none
  stallCut := false
  duty := 0
  dirTele := false
  pwmCount := 0
  dutyPin := 0
  dirPinTele := false

def Focus.powerOn : Focus where
  state := .unreferenced
  pos := none
  target := 0
  rate := 4
  holder := .none
  host := none
  refSteps := 0
  near := 8191
  stepsOut := 0
  stepNear := false
  phase := 0

def Iris.powerOn : Iris where
  pos := none
  command := none
  target := none
  holder := .none
  host := none
  settle := 0
  early := []
  recallTarget := none

def Tracking.powerOn : Tracking where
  focal := builtInFocal
  table := none
  d := 0
  on := false
  lastZ := none
  focalLength := 8000
  lag := 0
  load := none

def Shots.powerOn : Shots where
  banks := []
  spill := 0
  refuse := false
  op := none
  transfers := []
  press := none

def StabAxis.powerOn : StabAxis where
  bias := 524288
  acc := 0
  drive := 0
  last := none
  inPan := false
  rateCount := 0
  satCount := 0
  quietCount := 0
  saturated := false

def Stab.powerOn : Stab where
  state := .off
  mode := .off
  powerEmpty := false
  settling := 0
  cal := none
  leak := 33
  panLeak := 655
  deadBand := 2
  panThreshold := 400
  stroke := 2000
  focal := 8000
  yaw := StabAxis.powerOn
  pitch := StabAxis.powerOn

def Card.powerOn : Card where
  state := .empty
  capacity := 0
  committed := 0
  reserved := 0
  indexCount := 0
  lastClip := 0
  queue := []
  op := none
  index := none
  format := none

def Recorder.powerOn : Recorder where
  state := .standby
  phase := none
  mirror := false
  preferred := .a
  limit := 0
  bitrate := 100
  nextClip := 1
  opened := 0
  clips := []
  targetA := false
  targetB := false
  held := []
  after := []
  pendingStart := none
  restart := false
  pendingStop := none
  stopReq := none
  essences := []
  awaitA := false
  awaitB := false
  guardTimer := none
  powerEmpty := false
  pulse := none

/-- An audio channel after reset with its default source, gain mode and pot gain (R134). -/
def AudioChannel.atReset (source : AudioSource) (mode : GainMode) (pot : Option Nat) : AudioChannel where
  source := source
  phantom := false
  mode := mode
  hostGain := 0
  pot := pot
  peak := none
  level := -300
  held := -300
  holdCount := 0
  overFlag := false
  spacing := 0
  reduction := 0
  release := 0
  agc := 0
  quiet := 0
  mute := 0
  applied := 0
  lastGain := 0

/-- The four channels after a reset: 1 and 2 INT_MIC and MANUAL_POT, 3 and 4 EXT_MIC and MANUAL_HOST
(R134). -/
def audioChannelsAtReset (pot1 pot2 : Option Nat) : Vector AudioChannel 4 :=
  #v[.atReset .intMic .pot pot1, .atReset .intMic .pot pot2, .atReset .extMic .host none,
     .atReset .extMic .host none]

/-- The INPUT, MUTE OFF and GAIN items of one channel with the values of R134 (R145). -/
def resetItems (channel : Fin 4) (source : AudioSource) : List CodecItem :=
  [⟨channel, .input source false⟩, ⟨channel, .mute false⟩, ⟨channel, .gain 0⟩]

/-- The codec write queue as either reset fills it (R145). -/
def codecResetQueue : List CodecItem :=
  resetItems 0 .intMic ++ resetItems 1 .intMic ++ resetItems 2 .extMic ++ resetItems 3 .extMic

/-- When the codec link is free and the queue is not empty, the item at the head leaves the queue and
its write starts (R145). -/
def Audio.kick (a : Audio) : Audio :=
  match a.inFlight, a.queue with
  | none, item :: rest => { a with inFlight := some item, queue := rest }
  | _, _ => a

def Audio.powerOn : Audio where
  lost := false
  gap := 0
  recovery := none
  holdTime := 30
  overThreshold := -2
  limitThreshold := -4
  target := -40
  ceiling := 96
  queue := codecResetQueue
  inFlight := none
  channels := audioChannelsAtReset none none

/-- The contents of a page buffer at reset, which the spec leaves undefined (log 15). -/
def emptyPage : List Byte := List.replicate 64 0

/-- 24 spaces (R149). -/
def blankText : List Byte := List.replicate 24 0x20

def Viewfinder.powerOn : Viewfinder where
  address := 0x3A
  target := .idle
  writing := false
  reading := false
  pointer := 0
  holdTimer := none
  fifo := []
  heldMarks := []
  decoder := .atType
  present := false
  presence := none
  rocker := 0
  zoomHold := .none
  focusHold := none
  irisHold := none
  buttons := ⟨false, false, false, false⟩
  keys := []
  drops := 0
  pageX := emptyPage
  pageY := emptyPage
  shown := none
  build := .idle
  version := 0
  text := blankText
  overruns := 0
  errors := 0
  sentByte := 0
  ack := false

/-- A cue channel after either reset (R165). -/
def Cue.atReset : Cue where
  enable := false
  source := .tc Label.zero
  mask := ⟨false, false, false, false⟩
  condition := .crossUp
  action := .eventOnly
  once := true
  lastFired := none
  taken := false
  previous := none
  firedClip := false

/-- The event unit after either reset: latches clear, default levels (R171), ALERT released. -/
def Events.atReset : Events where
  latches := 0
  levels := defaultLevels
  alert := false

/-- A FREE slot (R178). -/
def Slot.free : Slot := ⟨.free, none⟩

def SlotUnit.powerOn : SlotUnit where
  enable := false
  alertLevel := 7
  doneAlert := true
  workBase := 0
  done := 0
  slots := Vector.replicate 32 Slot.free
  fetchQueue := []
  fetching := none
  lanes := Vector.replicate 7 []
  order := []
  completions := []
  misuse := 0

end Sys2Proof.Machine
end

