-- ==== Sys2Proof/Machine/State.lean ====
section
/-! DEFINITION. The machine state of the CB5 as one plain-data record, the state after reset, and the
reasons a step could stop. -/

namespace Sys2Proof.Machine

/-- The state of the CB5: one field per block of 00_scope.md's block table, then the model's own fields:
the bytes of main memory the part has written (log 10), the value of the last register read (log 31),
the counter of the free values (log 16), and the queue of waiting commands. -/
structure State where
  clock     : Clock
  lines     : Vector Line 7
  scan      : Scan
  power     : Power
  zoom      : Zoom
  focus     : Focus
  iris      : Iris
  conflict  : Option Conflict
  track     : Tracking
  shots     : Shots
  stab      : Stab
  cardA     : Card
  cardB     : Card
  recorder  : Recorder
  audio     : Audio
  vf        : Viewfinder
  cues      : Vector Cue 4
  events    : Events
  unit      : SlotUnit
  mem       : List Host.Cell
  busRead   : BusWord
  freeCount : Nat
  pending   : List Instr
  deriving DecidableEq, Repr

/-- Faults: none. The CB5 never stops; every condition it reports is a status, a latch or a counter. -/
inductive Fault where
  deriving DecidableEq, Repr

/-- Refusals. -/
inductive Refusal where
  /-- Raised by `exec` for a command that has no meaning yet; safe. No arm of `exec` raises it. -/
  | notModelled (mnemonic : String)
  deriving DecidableEq, Repr

/-- The state after the release of RESET with all seven line pins low (log 11): every block at its
power-on value; the initial FOCUS_HOME report, not asserted, has started referencing (R50); the first
codec write has started (R145, log 12). -/
def State.reset : State where
  clock := Clock.powerOn
  lines := linesSampled 0
  scan := Scan.powerOn
  power := Power.powerOn
  zoom := Zoom.powerOn
  focus := { Focus.powerOn with state := .referencing }
  iris := Iris.powerOn
  conflict := none
  track := Tracking.powerOn
  shots := Shots.powerOn
  stab := Stab.powerOn
  cardA := Card.powerOn
  cardB := Card.powerOn
  recorder := Recorder.powerOn
  audio := Audio.powerOn.kick
  vf := Viewfinder.powerOn
  cues := Vector.replicate 4 Cue.atReset
  events := Events.atReset
  unit := SlotUnit.powerOn
  mem := []
  busRead := 0
  freeCount := 0
  pending := []

end Sys2Proof.Machine
end

