-- ==== Sys2Proof/Machine/Flags.lean ====
section
/-! DEFINITION. The event latches, the DONE latch and the ALERT output (R171, R173, R181). -/

namespace Sys2Proof.Machine

/-- The mask of one class in the latches. -/
def EventClass.mask (c : EventClass) : BitVec 25 := BitVec.twoPow 25 c.bit.val

/-- A latch of a class: set when its level is 1–15, left as it is at level 0 (R171). -/
def Events.latch (c : EventClass) (e : Events) : Events :=
  if e.levels[c.bit] = 0 then e else { e with latches := e.latches ||| c.mask }

/-- Whether some latched class has a level above the alert level (R173). -/
def Events.above (e : Events) (alertLevel : Nat) : Bool :=
  (List.finRange 25).any fun i => e.latches.getLsbD i.val && decide (e.levels[i] > alertLevel)

/-- The condition under which ALERT is asserted (R173). -/
def alertCondition (e : Events) (u : SlotUnit) : Bool :=
  e.above u.alertLevel || (u.done != 0 && u.doneAlert)

/-- ALERT is evaluated again (R173). -/
def evalAlert (s : State) : State :=
  { s with events := { s.events with alert := alertCondition s.events s.unit } }

/-- A block latches an event class; ALERT is evaluated again (R171, R173). -/
def latch (c : EventClass) (s : State) : State :=
  evalAlert { s with events := s.events.latch c }

/-- A latch made only under a condition. -/
def latchIf (b : Bool) (c : EventClass) (s : State) : State := if b then latch c s else s

/-- The mask of one slot in a 32-bit register. -/
def slotMask (n : Fin 32) : BusWord := BitVec.twoPow 32 n.val

/-- A slot's DONE bit is set (R181). -/
def setDone (n : Fin 32) (s : State) : State :=
  evalAlert { s with unit := { s.unit with done := s.unit.done ||| slotMask n } }

/-- A slot's DONE bit is cleared (R182). -/
def clearDone (n : Fin 32) (s : State) : State :=
  evalAlert { s with unit := { s.unit with done := s.unit.done &&& ~~~slotMask n } }

end Sys2Proof.Machine
end

