-- ==== Sys2Proof/Machine/Label.lean ====
section
/-! DEFINITION. Label arithmetic (R11, R13, R14). -/

namespace Sys2Proof.Machine

/-- The labels dropped, d, in force: 0 when drop mode is OFF. -/
def dropsInForce (rate : FrameRate) (drop : Bool) : Nat := if drop then rate.dropCount.getD 0 else 0

/-- A label that does not exist in drop mode: seconds 0 and frames 0 to d − 1 in a minute not
divisible by 10 (R11). -/
def Label.isDropped (rate : FrameRate) (drop : Bool) (l : Label) : Bool :=
  l.seconds == 0 && decide (l.frames < dropsInForce rate drop) && l.minutes % 10 != 0

/-- A label that is valid for a frame rate code and drop mode (R11). -/
def Label.valid (rate : FrameRate) (drop : Bool) (l : Label) : Bool :=
  decide (l.hours ≤ 23) && decide (l.minutes ≤ 59) && decide (l.seconds ≤ 59)
    && decide (l.frames < rate.labelRate) && !l.isDropped rate drop

/-- A dropped label is moved to the next valid label: frames d (R11). -/
def Label.nextValid (rate : FrameRate) (drop : Bool) (l : Label) : Label :=
  if l.isDropped rate drop then { l with frames := dropsInForce rate drop } else l

/-- The frame number N of a label (R13). -/
def frameNumber (rate : FrameRate) (drop : Bool) (l : Label) : Nat :=
  let minutes := 60 * l.hours + l.minutes
  (3600 * l.hours + 60 * l.minutes + l.seconds) * rate.labelRate + l.frames
    - dropsInForce rate drop * (minutes - minutes / 10)

/-- The frames per day (R13). -/
def framesPerDay (rate : FrameRate) (drop : Bool) : Nat :=
  86400 * rate.labelRate - dropsInForce rate drop * 1296

/-- The non-drop label of a frame number (R14). -/
def plainLabel (labelRate n : Nat) : Label :=
  let seconds := n / labelRate
  ⟨seconds / 3600, seconds / 60 % 60, seconds % 60, n % labelRate⟩

/-- The label of a frame number (R14). -/
def labelOf (rate : FrameRate) (drop : Bool) (n : Nat) : Label :=
  let d := dropsInForce rate drop
  let rateN := rate.labelRate
  let k := 600 * rateN - 9 * d
  let q := n / k
  let m := n % k
  plainLabel rateN <|
    if d = 0 then n
    else if m ≥ d then n + 9 * d * q + d * ((m - d) / (60 * rateN - d)) else n + 9 * d * q

/-- A label plus `k` frames, with the 24-hour wrap (R14). -/
def addFrames (rate : FrameRate) (drop : Bool) (l : Label) (k : Int) : Label :=
  labelOf rate drop (((frameNumber rate drop l : Int) + k) % (framesPerDay rate drop : Int)).toNat

end Sys2Proof.Machine
end

