-- ==== Sys2Proof/Machine/Request.lean ====
section
/-! DEFINITION. The request kinds (section 11.5): codes, lanes, parameter lengths, the reading of a request's
parameter bytes into the command that serves it (R179), and the writing of them. -/

namespace Sys2Proof.Machine

/-- The request kinds of section 11.5. -/
inductive RequestKind where
  | getStatus | setEventLevels | setLines | setVideoFormat | setTc | setGenlock | setCue | cancel
  | setPowerLimits | setScan | setTcMode
  | zoomMove | zoomSpeed | focusMove | irisSet | lensStop | loadLensTables | setTracking | shotPush
  | shotRecall | shotClear | setShotPolicy
  | stabMode | stabParams | stabCalibrate
  | recStart | recStop | setRecMode | mark | listClips | formatCard | clearHalt
  | writeEssence
  | audioConfig | audioLevels
  | setVfText | setVfConfig
  deriving DecidableEq, Repr

/-- The kind code in a slot header (section 11.5). -/
def RequestKind.code : RequestKind → Byte
  | .getStatus => 0x01 | .setEventLevels => 0x02 | .setLines => 0x03 | .setVideoFormat => 0x04
  | .setTc => 0x05 | .setGenlock => 0x06 | .setCue => 0x07 | .cancel => 0x08
  | .setPowerLimits => 0x09 | .setScan => 0x0A | .setTcMode => 0x0B
  | .zoomMove => 0x10 | .zoomSpeed => 0x11 | .focusMove => 0x12 | .irisSet => 0x13
  | .lensStop => 0x14 | .loadLensTables => 0x15 | .setTracking => 0x16 | .shotPush => 0x17
  | .shotRecall => 0x18 | .shotClear => 0x19 | .setShotPolicy => 0x1A
  | .stabMode => 0x20 | .stabParams => 0x21 | .stabCalibrate => 0x22
  | .recStart => 0x30 | .recStop => 0x31 | .setRecMode => 0x32 | .mark => 0x33
  | .listClips => 0x34 | .formatCard => 0x35 | .clearHalt => 0x36
  | .writeEssence => 0x38
  | .audioConfig => 0x40 | .audioLevels => 0x41
  | .setVfText => 0x48 | .setVfConfig => 0x49

/-- The kind of a code; none for a code that is not in the kind table (R179). -/
def RequestKind.ofCode (code : Byte) : Option RequestKind :=
  match code.toNat with
  | 0x01 => some .getStatus | 0x02 => some .setEventLevels | 0x03 => some .setLines
  | 0x04 => some .setVideoFormat | 0x05 => some .setTc | 0x06 => some .setGenlock
  | 0x07 => some .setCue | 0x08 => some .cancel | 0x09 => some .setPowerLimits
  | 0x0A => some .setScan | 0x0B => some .setTcMode
  | 0x10 => some .zoomMove | 0x11 => some .zoomSpeed | 0x12 => some .focusMove
  | 0x13 => some .irisSet | 0x14 => some .lensStop | 0x15 => some .loadLensTables
  | 0x16 => some .setTracking | 0x17 => some .shotPush | 0x18 => some .shotRecall
  | 0x19 => some .shotClear | 0x1A => some .setShotPolicy
  | 0x20 => some .stabMode | 0x21 => some .stabParams | 0x22 => some .stabCalibrate
  | 0x30 => some .recStart | 0x31 => some .recStop | 0x32 => some .setRecMode
  | 0x33 => some .mark | 0x34 => some .listClips | 0x35 => some .formatCard
  | 0x36 => some .clearHalt | 0x38 => some .writeEssence
  | 0x40 => some .audioConfig | 0x41 => some .audioLevels
  | 0x48 => some .setVfText | 0x49 => some .setVfConfig
  | _ => none

/-- The lane of a kind (section 11.5). -/
def RequestKind.lane : RequestKind → LaneId
  | .getStatus | .setEventLevels | .setLines | .setVideoFormat | .setTc | .setGenlock | .setCue
  | .cancel | .setPowerLimits | .setScan | .setTcMode => .system
  | .zoomMove | .zoomSpeed | .focusMove | .irisSet | .lensStop | .loadLensTables | .setTracking
  | .shotPush | .shotRecall | .shotClear | .setShotPolicy => .lens
  | .stabMode | .stabParams | .stabCalibrate => .stab
  | .recStart | .recStop | .setRecMode | .mark | .listClips | .formatCard | .clearHalt => .record
  | .writeEssence => .essence
  | .audioConfig | .audioLevels => .audio
  | .setVfText | .setVfConfig => .display

/-- The number of parameter bytes of a kind; none for WRITE_ESSENCE, whose length is 1 + 10 × n
(section 11.5). -/
def RequestKind.length : RequestKind → Option Nat
  | .getStatus => some 0 | .setEventLevels => some 25 | .setLines => some 28
  | .setVideoFormat => some 2 | .setTc => some 4 | .setGenlock => some 1 | .setCue => some 11
  | .cancel => some 1 | .setPowerLimits => some 4 | .setScan => some 1 | .setTcMode => some 1
  | .zoomMove => some 3 | .zoomSpeed => some 3 | .focusMove => some 3 | .irisSet => some 2
  | .lensStop => some 0 | .loadLensTables => some 4 | .setTracking => some 1 | .shotPush => some 0
  | .shotRecall => some 0 | .shotClear => some 0 | .setShotPolicy => some 1
  | .stabMode => some 1 | .stabParams => some 9 | .stabCalibrate => some 0
  | .recStart => some 0 | .recStop => some 0 | .setRecMode => some 6 | .mark => some 2
  | .listClips => some 1 | .formatCard => some 1 | .clearHalt => some 0
  | .writeEssence => none
  | .audioConfig => some 16 | .audioLevels => some 8
  | .setVfText => some 25 | .setVfConfig => some 1

/-- A request of this kind that is in progress can be ended by CANCEL (R183). -/
def RequestKind.cancellable : RequestKind → Bool
  | .zoomMove | .zoomSpeed | .focusMove | .irisSet | .shotRecall | .stabCalibrate => true
  | .getStatus | .setEventLevels | .setLines | .setVideoFormat | .setTc | .setGenlock | .setCue
  | .cancel | .setPowerLimits | .setScan | .setTcMode | .lensStop | .loadLensTables | .setTracking
  | .shotPush | .shotClear | .setShotPolicy | .stabMode | .stabParams | .recStart | .recStop
  | .setRecMode | .mark | .listClips | .formatCard | .clearHalt | .writeEssence | .audioConfig
  | .audioLevels | .setVfText | .setVfConfig => false

/-! ### Groups of parameter bytes -/

/-- A line's four bytes of SET_LINES (R24). -/
def lineParamAt (p : List Byte) (i : Nat) : LineParam :=
  ⟨wordAt p (4 * i), byteAt p (4 * i + 2), byteAt p (4 * i + 3)⟩

/-- A channel's four bytes of AUDIO_CONFIG (R146). -/
def audioParamAt (p : List Byte) (i : Nat) : AudioParam :=
  ⟨byteAt p (4 * i), byteAt p (4 * i + 1), byteAt p (4 * i + 2), byteAt p (4 * i + 3)⟩

/-- The ten bytes of an extent of WRITE_ESSENCE, after its count byte (R118). -/
def extentParamAt (p : List Byte) (i : Nat) : ExtentParam :=
  ⟨longAt p (1 + 10 * i), longAt p (5 + 10 * i), wordAt p (9 + 10 * i)⟩

/-- The eleven bytes of SET_CUE (R170). -/
def cueParamOf (p : List Byte) : CueParam :=
  ⟨byteAt p 0, byteAt p 1, byteAt p 2, longAt p 3, byteAt p 7, byteAt p 8, byteAt p 9, byteAt p 10⟩

def lineParamBytes (g : LineParam) : List Byte := wordBytes g.debounce ++ [g.rise, g.fall]

def audioParamBytes (g : AudioParam) : List Byte := [g.source, g.phantom, g.gainMode, g.hostGain]

def extentParamBytes (e : ExtentParam) : List Byte :=
  longBytes e.address ++ longBytes e.length ++ wordBytes e.frames

def cueParamBytes (c : CueParam) : List Byte :=
  [c.channel, c.enable, c.source] ++ longBytes c.value ++ [c.mask, c.condition, c.action, c.mode]

/-! ### Reading a request (R179) -/

/-- The length check (R179). -/
def lengthFits (k : RequestKind) (length : Nat) (p : List Byte) : Bool :=
  decide (length ≤ 256) && match k.length with
    | some n => length == n
    | none => decide (length ≥ 1) && length == 1 + 10 * (byteAt p 0).toNat

/-- The command that serves a request of a kind with parameter bytes of its length. -/
def requestOf (slot : Fin 32) (k : RequestKind) (p : List Byte) : Instr :=
  match k with
  | .getStatus => .getStatus slot
  | .setEventLevels => .setEventLevels slot (p.take 25)
  | .setLines => .setLines slot ((List.range 7).map (lineParamAt p))
  | .setVideoFormat => .setVideoFormat slot (byteAt p 0) (byteAt p 1)
  | .setTc => .setTc slot (byteAt p 0) (byteAt p 1) (byteAt p 2) (byteAt p 3)
  | .setGenlock => .setGenlock slot (byteAt p 0)
  | .setCue => .setCue slot (cueParamOf p)
  | .cancel => .cancel slot (byteAt p 0)
  | .setPowerLimits => .setPowerLimits slot (wordAt p 0) (wordAt p 2)
  | .setScan => .setScan slot (byteAt p 0)
  | .setTcMode => .setTcMode slot (byteAt p 0)
  | .zoomMove => .zoomMove slot (wordAt p 0) (byteAt p 2)
  | .zoomSpeed => .zoomSpeed slot (byteAt p 0) (wordAt p 1)
  | .focusMove => .focusMove slot (wordAt p 0) (byteAt p 2)
  | .irisSet => .irisSet slot (wordAt p 0)
  | .lensStop => .lensStop slot
  | .loadLensTables => .loadLensTables slot (longAt p 0)
  | .setTracking => .setTracking slot (byteAt p 0)
  | .shotPush => .shotPush slot
  | .shotRecall => .shotRecall slot
  | .shotClear => .shotClear slot
  | .setShotPolicy => .setShotPolicy slot (byteAt p 0)
  | .stabMode => .stabMode slot (byteAt p 0)
  | .stabParams => .stabParams slot (wordAt p 0) (wordAt p 2) (byteAt p 4) (wordAt p 5) (wordAt p 7)
  | .stabCalibrate => .stabCalibrate slot
  | .recStart => .recStart slot
  | .recStop => .recStop slot
  | .setRecMode => .setRecMode slot (byteAt p 0) (byteAt p 1) (wordAt p 2) (wordAt p 4)
  | .mark => .mark slot (byteAt p 0) (byteAt p 1)
  | .listClips => .listClips slot (byteAt p 0)
  | .formatCard => .formatCard slot (byteAt p 0)
  | .clearHalt => .clearHalt slot
  | .writeEssence => .writeEssence slot ((List.range (byteAt p 0).toNat).map (extentParamAt p))
  | .audioConfig => .audioConfig slot ((List.range 4).map (audioParamAt p))
  | .audioLevels => .audioLevels slot (byteAt p 0) (wordAt p 1) (wordAt p 3) (wordAt p 5) (byteAt p 7)
  | .setVfText => .setVfText slot (byteAt p 0) ((p.drop 1).take 24)
  | .setVfConfig => .setVfConfig slot (byteAt p 0)

/-- The command that a fetched request stands for; none when it fails the kind check or the length check
(R179). -/
def decodeRequest (slot : Fin 32) (kind : Byte) (length : BitVec 16) (p : List Byte) : Option Instr :=
  match RequestKind.ofCode kind with
  | some k => if lengthFits k length.toNat p then some (requestOf slot k p) else none
  | none => none

/-! ### Writing a request -/

/-- The slot, the kind and the parameter bytes of a request's command; none for a command that is not a
request (section 11.5). -/
def requestParts (i : Instr) : Option (Fin 32 × RequestKind × List Byte) :=
  match i with
  | .cancel n target => some (n, .cancel, [target])
  | .getStatus n => some (n, .getStatus, [])
  | .setEventLevels n levels => some (n, .setEventLevels, levels)
  | .setCue n cue => some (n, .setCue, cueParamBytes cue)
  | .setVideoFormat n rate drop => some (n, .setVideoFormat, [rate, drop])
  | .setTc n h m sec f => some (n, .setTc, [h, m, sec, f])
  | .setTcMode n mode => some (n, .setTcMode, [mode])
  | .setGenlock n enable => some (n, .setGenlock, [enable])
  | .setLines n groups => some (n, .setLines, groups.flatMap lineParamBytes)
  | .setScan n code => some (n, .setScan, [code])
  | .setPowerLimits n low empty => some (n, .setPowerLimits, wordBytes low ++ wordBytes empty)
  | .zoomMove n target speed => some (n, .zoomMove, wordBytes target ++ [speed])
  | .zoomSpeed n speed duration => some (n, .zoomSpeed, speed :: wordBytes duration)
  | .focusMove n target rate => some (n, .focusMove, wordBytes target ++ [rate])
  | .irisSet n target => some (n, .irisSet, wordBytes target)
  | .lensStop n => some (n, .lensStop, [])
  | .loadLensTables n address => some (n, .loadLensTables, longBytes address)
  | .setTracking n enable => some (n, .setTracking, [enable])
  | .shotPush n => some (n, .shotPush, [])
  | .shotRecall n => some (n, .shotRecall, [])
  | .shotClear n => some (n, .shotClear, [])
  | .setShotPolicy n policy => some (n, .setShotPolicy, [policy])
  | .stabMode n mode => some (n, .stabMode, [mode])
  | .stabParams n leak panLeak dead pan stroke => some (n, .stabParams,
      wordBytes leak ++ wordBytes panLeak ++ [dead] ++ wordBytes pan ++ wordBytes stroke)
  | .stabCalibrate n => some (n, .stabCalibrate, [])
  | .formatCard n c => some (n, .formatCard, [c])
  | .recStart n => some (n, .recStart, [])
  | .recStop n => some (n, .recStop, [])
  | .writeEssence n extents =>
      some (n, .writeEssence, BitVec.ofNat 8 extents.length :: extents.flatMap extentParamBytes)
  | .clearHalt n => some (n, .clearHalt, [])
  | .mark n kind detail => some (n, .mark, [kind, detail])
  | .setRecMode n mode preferred limit bitrate =>
      some (n, .setRecMode, [mode, preferred] ++ wordBytes limit ++ wordBytes bitrate)
  | .listClips n start => some (n, .listClips, [start])
  | .audioConfig n groups => some (n, .audioConfig, groups.flatMap audioParamBytes)
  | .audioLevels n hold overLevel limit target ceiling => some (n, .audioLevels,
      [hold] ++ wordBytes overLevel ++ wordBytes limit ++ wordBytes target ++ [ceiling])
  | .setVfText n length chars => some (n, .setVfText, length :: chars)
  | .setVfConfig n address => some (n, .setVfConfig, [address])
  | .powerOnReset _ | .controllerReset | .controlWrite _ | .workBaseWrite _ | .postWrite _ | .doneRead
  | .releaseWrite _ | .eventsRead | .registerWriteNoEffect _ _ | .fetchStart | .fetchEnd _ _
  | .laneStart _ | .completionWritesEnd _ | .frameStart _ | .dayLimitReached _ | .holdoverExpiry _
  | .referenceEdge _ | .missedEdge | .lineRawChange _ _ | .debounceExpiry _ | .scanFrameStart
  | .channelStarved _ | .conversionComplete _ _ | .zoomSpeedExpiry | .zoomStall | .focusStep
  | .referencingFault | .irisStall _ | .lensTableReadEnd _ | .spillWriteEnd _ | .spillReadEnd _
  | .shotPressTimerExpiry | .stabSettled | .panEntry _ _ | .panExit _ _ | .calibrationEnd _
  | .mountAfterResetStart _ | .headerReadEnd _ _ | .blockWriteEnd _ _ | .extentSourceError _
  | .indexWriteEnd _ _ | .formatEnd _ _ | .cardLinkTimeout _ | .recGuardExpiry | .goodPulseExpiry
  | .audioFrame _ _ _ _ | .syncGapExpiry | .recoveryTimerExpiry | .muteCountExpiry _ _
  | .limiterRelease _ _ | .agcRise _ _ | .codecWriteEnd | .linkStart | .linkStop | .addressByte _ _
  | .writeDataByte _ | .readByteAcknowledge _ | .writeHoldTimeout | .decoderTakeByte | .pointer _
  | .rocker _ | .focusDelta _ | .irisDelta _ | .button _ _ | .panelKey _ _ | .zoomHoldExpiry
  | .axisHoldExpiry _ | .presenceTimerExpiry | .pageRebuildComplete => none

/-- The kind of a request's command. -/
def requestKind (i : Instr) : Option RequestKind := (requestParts i).map fun p => p.2.1

/-- The lane of a request's command. -/
def requestLane (i : Instr) : Option LaneId := (requestKind i).map RequestKind.lane

end Sys2Proof.Machine
end

