-- ==== Sys2Proof/Machine/Ops.lean ====
section
/-! DEFINITION. The operations every block shares: the bytes of main memory the part writes, the
completion of a request, the label a record is stamped with, and the free values. -/

namespace Sys2Proof.Machine

/-! ### Main memory as the part has written it (log 10) -/

/-- The memory's canonical form: addresses strictly rising. An unlisted address reads as "not written by
the part", which no entry equals. -/
def Memory.wf : List Host.Cell → Bool
  | [] => true
  | [_] => true
  | a :: b :: rest => decide (a.1 < b.1) && Memory.wf (b :: rest)

/-- The byte the part last wrote at an address; none where it has written nothing. -/
def memRead (m : List Host.Cell) (address : Nat) : Option Byte :=
  match m with
  | [] => none
  | (a, b) :: rest => if a = address then some b else memRead rest address

/-- A byte written at an address. -/
def memWrite (m : List Host.Cell) (address : Nat) (b : Byte) : List Host.Cell :=
  match m with
  | [] => [(address, b)]
  | (a, c) :: rest =>
    if address < a then (address, b) :: (a, c) :: rest
    else if address = a then (address, b) :: rest
    else (a, c) :: memWrite rest address b

/-- A series of byte writes, in order. -/
def memWriteAll (m : List Host.Cell) : List Host.Cell → List Host.Cell
  | [] => m
  | (a, b) :: rest => memWriteAll (memWrite m a b) rest

/-- Consecutive bytes from an address on. -/
def cellsFrom (address : Nat) : List Byte → List Host.Cell
  | [] => []
  | b :: rest => (address, b) :: cellsFrom (address + 1) rest

/-- The bytes of a series of writes that are made: all of them, or those before the one that meets the bus
error (R71, R181). The last `unit` bytes are one write, made whole or not at all; the others may be cut at any
byte (log 53). -/
def BusEnd.made (e : BusEnd) (unit : Nat) (writes : List Host.Cell) : List Host.Cell :=
  match e with
  | .ok => writes
  | .error n => writes.take (min n (writes.length - unit))

/-- The address of slot `n` under a base (R177). -/
def slotAddress (base : BusWord) (n : Fin 32) : Nat := base.toNat + 512 * n.val

/-- The writes of a completion with its label in their order (R181): result bytes from byte 272, result length
and completion label, status. -/
def completionCells (label : Label) (c : Completion) : List Host.Cell :=
  let at0 := slotAddress c.base c.slot
  cellsFrom (at0 + 272) c.result
    ++ cellsFrom (at0 + 8) (field16 c.result.length ++ labelBytes label)
    ++ cellsFrom (at0 + 6) (field16 c.status.code)

/-- The writes that follow a bus error on a fetch read (R179): result length 0, status MALFORMED. -/
def fetchErrorCells (base : BusWord) (n : Fin 32) : List Host.Cell :=
  let at0 := slotAddress base n
  cellsFrom (at0 + 8) (field16 0) ++ cellsFrom (at0 + 6) (field16 Status.malformed.code)

/-! ### The frame in progress (R1, R15) -/

/-- The frame in progress with another period (section 1.2, notes; R15, step 2): a frame start whose tick has come
stands where the counter is at or above the new end; below it that tick only moves the counter on, and the
frame ends when the counter reaches the new end. -/
def Clock.withPeriod (period : Nat) (c : Clock) : Clock :=
  if c.frameDue && decide (c.counter + 1 < period) then
    { c with period := period, counter := c.counter + 1, frameDue := false }
  else { c with period := period }

/-! ### Labels (R3, R19) -/

/-- The label last delivered at frame start; before the first frame start, the unit's label (R3). After an accepted
SET_VIDEO_FORMAT it stays the label that was delivered, until the next frame start (log 46). -/
def deliveredLabel (s : State) : Label := s.clock.delivered.getD s.clock.label

/-- The stamp of a record made now: the label last delivered and its frame number (section 11.6). -/
def stampNow (s : State) : Stamp :=
  ⟨deliveredLabel s, frameNumber s.clock.rate s.clock.drop (deliveredLabel s)⟩

/-! ### Completion (R181) -/

/-- Whether a slot's request is in progress and not yet completed. -/
def SlotState.inService : SlotState → Bool
  | .started => true | .running => true
  | .free => false | .posted => false | .waiting => false | .completing => false | .done => false

/-- A slot's record with a new state. -/
def setSlotState (n : Fin 32) (st : SlotState) (s : State) : State :=
  { s with unit := { s.unit with slots := modify s.unit.slots n fun r => { r with state := st } } }

/-- A serving block completes the request of slot `n` by handing the slot unit a status and a result, with the
completion label where one is fixed (R181). A slot with no request in progress is left alone. -/
def completeWith (label : Option Label) (n : Fin 32) (status : Status) (result : List Byte) (s : State) : State :=
  if s.unit.slots[n].state.inService then
    let s := setSlotState n .completing s
    let c : Completion := ⟨n, s.unit.workBase, status, result.take 240, label, true⟩
    { s with unit := { s.unit with completions := s.unit.completions ++ [c] } }
  else s

/-- `completeWith` the label that is last delivered when the completion is written (R19, log 8). -/
def complete (n : Fin 32) (status : Status) (result : List Byte) (s : State) : State :=
  completeWith none n status result s

/-- The label of a completion that is written now: the one fixed for it, or the one last delivered (R19). -/
def completionLabel (c : Completion) (s : State) : Label := c.label.getD (deliveredLabel s)

/-- OK_ADJUSTED when something was clamped or moved, OK otherwise. -/
def okStatus (adjusted : Bool) : Status := if adjusted then .okAdjusted else .ok

/-- The serving block has taken the request and goes on with it. A slot with no request in progress is left
alone. -/
def keepRunning (n : Fin 32) (s : State) : State :=
  if s.unit.slots[n].state.inService then setSlotState n .running s else s

/-- The lane of the request a slot holds. -/
def slotLane (n : Fin 32) (u : SlotUnit) : Option LaneId :=
  match u.slots[n].request with
  | some i => requestLane i
  | none => none

/-- No request of the slot's lane that was taken before it is still to be handed to its serving block: a lane
hands over its requests in fetch order (R180). -/
def isNextOfLane (n : Fin 32) (u : SlotUnit) : Bool :=
  (u.order.takeWhile fun m => m != n).all fun m => u.slots[m].state != .started || slotLane m u != slotLane n u

/-- The request of slot `n` has been started, is the one the command carries, and is the next of its lane
(R180, log 7). -/
def isStarted (n : Fin 32) (i : Instr) (s : State) : Bool :=
  s.unit.slots[n].state == .started && s.unit.slots[n].request == some i && isNextOfLane n s.unit

/-- A request's command: the serving block runs the started request; a slot in which that request has
not been started is left alone (log 7). -/
def serve (n : Fin 32) (i : Instr) (run : State → State) (s : State) : State :=
  if isStarted n i s then run s else s

/-! ### Free values (log 16) -/

/-- The next `n` free bytes. -/
def freeBytes (n : Nat) (s : State) : List Byte :=
  (List.range n).map fun i => Config.freeByte (s.freeCount + i)

/-- The free-value counter moved on by `n`. -/
def useFree (n : Nat) (s : State) : State := { s with freeCount := s.freeCount + n }

/-- A request completed in a way for which its rule states no results: the result is free. -/
def completeFree (n : Fin 32) (status : Status) (s : State) : State :=
  useFree 1 (complete n status (Config.freeResult s.freeCount) s)

end Sys2Proof.Machine
end

