-- ==== Sys2Proof/Machine/MediaBase.lean ====
section
/-! DEFINITION. The media controller's shared operations (Chapter 6): card states, check points, the link,
selection, reservation and index requests. -/

namespace Sys2Proof.Machine

/-! ### Cards -/

/-- The card slot's record. -/
def card (c : CardSlot) (s : State) : Card :=
  match c with
  | .a => s.cardA
  | .b => s.cardB

/-- The state with one card slot's record replaced. -/
def setCard (c : CardSlot) (k : Card) (s : State) : State :=
  match c with
  | .a => { s with cardA := k }
  | .b => { s with cardB := k }

/-- The event class of a card slot (R95). -/
def cardClass : CardSlot → EventClass
  | .a => .cardA | .b => .cardB

/-- The free blocks (R94). -/
def Card.free (k : Card) : Nat := k.capacity - k.committed - k.reserved

/-- A card is busy while its queue holds an entry, an operation is in flight, or an index is pending
(R94). -/
def Card.busy (k : Card) : Bool := !k.queue.isEmpty || k.op.isSome || k.index.isSome

/-- FULL under 64 free blocks, READY otherwise (R97, R100). -/
def Card.openState (k : Card) : CardState := if k.free < 64 then .full else .ready

/-- The debounced protect level of a slot: line 2 for A, line 3 for B. -/
def isProtected (c : CardSlot) (s : State) : Bool :=
  match c with
  | .a => s.lines[2].debounced
  | .b => s.lines[3].debounced

/-- The debounced detect level of a slot: line 0 for A, line 1 for B. -/
def isDetected (c : CardSlot) (s : State) : Bool :=
  match c with
  | .a => s.lines[0].debounced
  | .b => s.lines[1].debounced

/-- The state derived at the end of a mount or a format (R97, R106). -/
def derivedCardState (c : CardSlot) (s : State) : CardState :=
  if isProtected c s then .protect else (card c s).openState

/-- A change of a card state with its latches (R95). -/
def setCardState (c : CardSlot) (st : CardState) (s : State) : State :=
  if (card c s).state = st then s
  else
    latchIf (st == .fault) .mediaFault
      (latch (cardClass c) (setCard c { card c s with state := st } s))

/-- A protect check point (R99). -/
def checkPoint (c : CardSlot) (s : State) : State :=
  match (card c s).state with
  | .ready | .full => if isProtected c s && !(card c s).busy then setCardState c .protect s else s
  | .protect => if isProtected c s then s else setCardState c (card c s).openState s
  | .active | .empty | .mounting | .formatting | .fault => s

/-- The check point of a card that has become idle (R99, R102, R105, log 33). -/
def idleCheck (c : CardSlot) (s : State) : State := if (card c s).busy then s else checkPoint c s

/-! ### The link (R94, R102, R104) -/

/-- The time limit of an operation, in ms; a BLOCK_WRITE has 250 ms from each block sent to its answer. -/
def linkLimit (kind : LinkOpKind) : Nat :=
  match kind with
  | .headerRead => 1500
  | .blockWrite => 250
  | .indexWrite => 250
  | .format => 10000

/-- An operation starts on the link; a BLOCK_WRITE sends the first of its blocks. -/
def Card.start (kind : LinkOpKind) (blocks : Nat) (k : Card) : Card :=
  { k with op := some ⟨kind, linkLimit kind * ticksPerMs, blocks - 1, none, true⟩ }

/-- The header after the index record of a clip has been written: the committed blocks, the clip index count plus
one, held at 65,535 (log 49), and the clip number (R104). -/
def Card.updatedHeader (number : Nat) (k : Card) : CardHeader := ⟨k.committed, countUp k.indexCount, number⟩

/-- The INDEX_WRITE of the index pending starts, with the updated header (R104). -/
def Card.startIndex (r : IndexRecord) (k : Card) : Card :=
  { k with op := some ⟨.indexWrite, linkLimit .indexWrite * ticksPerMs, 0, some (k.updatedHeader r.number), true⟩ }

/-- A free link serves the write queue, and then an index pending (R102, R104). -/
def Card.serveLink (k : Card) : Card :=
  if k.op.isSome then k
  else
    match k.queue, k.index with
    | e :: _, _ => k.start .blockWrite e.blocks
    | [], some r => k.startIndex r
    | [], none => k

/-- The link of a slot is served. -/
def startNext (c : CardSlot) (s : State) : State := setCard c (card c s).serveLink s

/-- The operation in flight is over. -/
def endOp (c : CardSlot) (s : State) : State := setCard c { card c s with op := none } s

/-- A mount begins (R96): MOUNTING, and the HEADER_READ starts when the link is free (R107). -/
def beginMount (c : CardSlot) (s : State) : State :=
  let s := setCardState c .mounting s
  if (card c s).op.isSome then s else setCard c ((card c s).start .headerRead 1) s

/-! ### Requests of the record engine (R100, R101, R104) -/

/-- Select: SELECTED, with the card ACTIVE, when it is READY (R100). -/
def select (c : CardSlot) (s : State) : State :=
  if (card c s).state = .ready then setCardState c .active s else s

/-- Deselect (R100). -/
def deselect (c : CardSlot) (s : State) : State :=
  if (card c s).state = .active then checkPoint c (setCardState c (card c s).openState s) else s

/-- The blocks an extent needs (R101). -/
def blocksFor (length : Nat) : Nat := (length + 65535) / 65536

/-- The answers to a queue request (R101). -/
inductive QueueAnswer where
  | notWritable | noRoom | queueFull
  | queued (first blocks : Nat)
  deriving DecidableEq, Repr

/-- The answer to a queue request: the first case that applies (R101). -/
def queueAnswer (k : Card) (e : Extent) : QueueAnswer :=
  if k.state ≠ .active then .notWritable
  else if blocksFor e.length > k.free then .noRoom
  else if k.queue.length ≥ 512 then .queueFull
  else .queued (k.committed + k.reserved) (blocksFor e.length)

/-- What a queue request does to the card (R101, R102); a card that goes from ACTIVE to FULL has left ACTIVE,
which is a check point (R99). -/
def queueExtent (c : CardSlot) (e : Extent) (s : State) : State :=
  match queueAnswer (card c s) e with
  | .queued first blocks =>
    let k := card c s
    startNext c (setCard c { k with
      reserved := k.reserved + blocks, queue := k.queue ++ [⟨e, first, blocks⟩] } s)
  | .noRoom => checkPoint c (setCardState c .full s)
  | .notWritable => s
  | .queueFull => s

/-- A card state that takes an index request (R104). -/
def CardState.takesIndex : CardState → Bool
  | .active => true | .ready => true | .full => true
  | .empty => false | .mounting => false | .protect => false | .formatting => false | .fault => false

/-- An index request that the card takes becomes the index pending (R104). -/
def indexRequest (c : CardSlot) (r : IndexRecord) (s : State) : State :=
  startNext c (setCard c { card c s with index := some r } s)

end Sys2Proof.Machine
end

