-- ==== Sys2Proof/Machine/Record.lean ====
section
/-! DEFINITION. The record engine (Chapter 7): settlement of extents, marks, starts and stops, the handing of
extents to the cards, relay, loss, the two stopping phases, and the requests of the RECORD and ESSENCE
lanes. -/

namespace Sys2Proof.Machine

/-! ### The clip table (R109, R110) -/

/-- OPEN or CLOSING. -/
def ClipState.inProgress : ClipState → Bool
  | .opened => true | .closing => true | .closed => false | .broken => false

/-- The open clip: the record that is OPEN or CLOSING (R109). -/
def openClip (s : State) : Option Clip := s.recorder.clips.find? fun c => c.state.inProgress

/-- The records with the open clip changed by `f`. -/
def updateOpen (f : Clip → Clip) (s : State) : State :=
  { s with recorder := { s.recorder with
    clips := s.recorder.clips.map fun c => if c.state.inProgress then f c else c } }

/-- A span of the clip lies on a card. -/
def Clip.spansOn (c : CardSlot) (k : Clip) : Bool := k.spans.any fun sp => sp.card == c

/-- The span test of FORMAT_CARD: the open clip has a span on the card (R106, R132). -/
def openClipOn (c : CardSlot) (s : State) : Bool :=
  match openClip s with
  | some k => k.spansOn c
  | none => false

/-- A target card (R109). -/
def isTarget (c : CardSlot) (s : State) : Bool :=
  match c with
  | .a => s.recorder.targetA
  | .b => s.recorder.targetB

/-- A card joins or leaves the target cards. -/
def setTarget (c : CardSlot) (on : Bool) (s : State) : State :=
  match c with
  | .a => { s with recorder := { s.recorder with targetA := on } }
  | .b => { s with recorder := { s.recorder with targetB := on } }

/-- Some card is a target card. -/
def hasTarget (s : State) : Bool := s.recorder.targetA || s.recorder.targetB

/-! ### Record state, idle state, tally (R111, R129) -/

/-- The states in which the tally output is on (R129). -/
def RecState.tallies : RecState → Bool
  | .recording => true | .stopping => true
  | .standby => false | .prerec => false | .arming => false | .halted => false

/-- The tally output (R129). -/
def tally (r : Recorder) : Bool := r.state.tallies && r.pulse.isNone

/-- A change of record state: REC_STATE latches, and a state that turns the tally off ends a pulse (R111,
R129). -/
def setRecState (st : RecState) (s : State) : State :=
  if s.recorder.state = st then s
  else
    let pulse := if st.tallies then s.recorder.pulse else none
    latch .recState { s with recorder := { s.recorder with state := st, pulse := pulse } }

/-- The idle state at this moment (R111). -/
def idleState (s : State) : RecState :=
  if s.recorder.limit > 0 && s.clock.mode == .freeRun then .prerec else .standby

/-! ### Settlement (R118, R124) -/

/-- An extent's entry in its essence record. -/
def essenceExtent (slot : Fin 32) (place : Nat) (s : State) : Option EssenceExtent :=
  match s.recorder.essences.find? fun e => e.slot == slot with
  | some e => e.extents[place]?
  | none => none

/-- An extent's entry changed by `f`. -/
def updateExtent (slot : Fin 32) (place : Nat) (f : EssenceExtent → EssenceExtent) (s : State) : State :=
  { s with recorder := { s.recorder with
    essences := s.recorder.essences.map fun e =>
      if e.slot = slot then { e with extents := e.extents.modify place f } else e } }

/-- The side of a card. -/
def EssenceExtent.side (c : CardSlot) (x : EssenceExtent) : Side :=
  match c with
  | .a => x.sideA
  | .b => x.sideB

/-- The extent with one side set. -/
def EssenceExtent.withSide (c : CardSlot) (side : Side) (x : EssenceExtent) : EssenceExtent :=
  match c with
  | .a => { x with sideA := side }
  | .b => { x with sideB := side }

/-- No side is QUEUED. -/
def EssenceExtent.quiet (x : EssenceExtent) : Bool := x.sideA != .queued && x.sideB != .queued

/-- The outcome of an extent whose sides are as they stand, or `otherwise` where none is WRITTEN (R124). -/
def EssenceExtent.outcomeOr (otherwise : ExtentOutcome) (x : EssenceExtent) : ExtentOutcome :=
  match x.sideA, x.sideB with
  | .written, .written => .writtenBoth
  | .written, _ => .writtenA
  | _, .written => .writtenB
  | _, _ => otherwise

/-- The request's status when every extent has an outcome (R124). -/
def essenceStatus (outcomes : List (Option ExtentOutcome)) : Status :=
  if outcomes.all fun o => o == some .discarded then .discarded
  else if outcomes.all fun o => o == some .writtenA || o == some .writtenB || o == some .writtenBoth then .ok
  else .partially

/-- One entry of the results (R124). -/
def EssenceExtent.resultBytes (x : EssenceExtent) : List Byte :=
  byteOf (x.outcome.getD .discarded).code :: field16 x.clip

/-- The results in position order (R124). -/
def essenceResult (e : Essence) : List Byte := e.extents.flatMap EssenceExtent.resultBytes

/-- A request all of whose extents are settled completes, and its essence record is removed (R124). -/
def finishEssence (slot : Fin 32) (s : State) : State :=
  match s.recorder.essences.find? fun e => e.slot == slot with
  | some e =>
    if e.unsettled = 0 then
      let s := complete slot (essenceStatus (e.extents.map EssenceExtent.outcome)) (essenceResult e) s
      { s with recorder := { s.recorder with
        essences := s.recorder.essences.filter fun e => e.slot != slot } }
    else s
  | none => s

/-- An extent that has no outcome is settled: with the outcome its written sides give, or else with
`otherwise` (R124). -/
def settle (otherwise : ExtentOutcome) (slot : Fin 32) (place : Nat) (s : State) : State :=
  match essenceExtent slot place s with
  | some x =>
    if x.outcome.isSome then s
    else
      let s := updateExtent slot place (fun x => { x with outcome := some (x.outcomeOr otherwise) }) s
      let s := { s with recorder := { s.recorder with
        essences := s.recorder.essences.map fun e =>
          if e.slot = slot then { e with unsettled := e.unsettled - 1 } else e } }
      finishEssence slot s
  | none => s

/-- A list of extents settled DISCARDED. -/
def discardAll (l : List Extent) (s : State) : State :=
  l.foldl (fun s e => settle .discarded e.slot e.place s) s

/-- An extent with no side QUEUED is settled by its sides: written, or LOST (R120, R123, R124). -/
def settleBySides (slot : Fin 32) (place : Nat) (s : State) : State :=
  match essenceExtent slot place s with
  | some x => if x.quiet then settle .lost slot place s else s
  | none => s

/-- A side of an extent is set. -/
def setSide (c : CardSlot) (side : Side) (slot : Fin 32) (place : Nat) (s : State) : State :=
  updateExtent slot place (EssenceExtent.withSide c side) s

/-! ### Held and after-stop lists (R114, R119) -/

/-- The frames of a list. -/
def totalFrames (l : List Extent) : Nat := (l.map Extent.frames).sum

/-- The list without the oldest extents that keep its frames above a limit, and those extents (R119). -/
def trimmed (limit : Nat) : List Extent → List Extent × List Extent
  | [] => ([], [])
  | e :: rest =>
    if totalFrames (e :: rest) > limit then
      let (dropped, kept) := trimmed limit rest
      (e :: dropped, kept)
    else ([], e :: rest)

/-- The held list becomes `l`, trimmed to the limit in PREREC and discarded in STANDBY (R114, R119, R125). -/
def keepHeld (l : List Extent) (s : State) : State :=
  if s.recorder.state = .prerec then
    let (dropped, kept) := trimmed s.recorder.limit l
    discardAll dropped { s with recorder := { s.recorder with held := kept } }
  else discardAll l { s with recorder := { s.recorder with held := [] } }

/-- The state goes to the idle state, with the held list trimmed or discarded (R111, R114). -/
def toIdle (s : State) : State :=
  let s := setRecState (idleState s) s
  keepHeld s.recorder.held s

/-- The after-stop list with the restart flag clear: trimmed, or discarded (R119). -/
def trimAfter (s : State) : State :=
  if idleState s = .prerec then
    let (dropped, kept) := trimmed s.recorder.limit s.recorder.after
    discardAll dropped { s with recorder := { s.recorder with after := kept } }
  else discardAll s.recorder.after { s with recorder := { s.recorder with after := [] } }

/-! ### Marks (R127 to R129) -/

/-- The marks that a CLOSING clip takes too (R127). -/
def MarkKind.takenClosing : MarkKind → Bool
  | .relay => true | .degraded => true
  | .good => false | .cue => false | .audioOver => false | .audioSwitch => false | .batteryLow => false

/-- The open clip is in a state in which this kind of mark is added (R127). -/
def markTaken (kind : MarkKind) (s : State) : Bool :=
  match openClip s with
  | some k => k.state == .opened || kind.takenClosing
  | none => false

/-- The open clip has 16 marks, so that a new one is dropped (R127). -/
def marksFull (s : State) : Bool :=
  match openClip s with
  | some k => decide (k.marks.length ≥ 16)
  | none => false

/-- A clip with a mark, or with MARKS_FULL when it has 16 (R127). -/
def Clip.addMark (kind : MarkKind) (detail : Option Nat) (k : Clip) : Clip :=
  if k.marks.length ≥ 16 then { k with marksFull := true }
  else { k with marks := k.marks ++ [⟨kind, k.frames - 1, detail⟩] }

/-- A mark is added to the open clip; a GOOD mark that is added starts the GOOD pulse (R127, R129). -/
def addMark (kind : MarkKind) (detail : Option Nat) (s : State) : State :=
  if markTaken kind s then
    let pulses := kind == .good && !marksFull s
    let s := updateOpen (Clip.addMark kind detail) s
    if pulses then { s with recorder := { s.recorder with pulse := some pulseTicks } } else s
  else s

/-- DEGRADED is set and a DEGRADED mark added with the card as detail (R117, R122, R123). -/
def degrade (c : CardSlot) (s : State) : State :=
  addMark .degraded (some (cardCode c)) (updateOpen (fun k => { k with degraded := true }) s)

/-! ### Starts (R112) -/

/-- The refusal of a start, by the first case that applies (R112); none when it is taken. -/
def startRefusal (s : State) : Option Status :=
  let r := s.recorder
  let idle := r.state == .standby || r.state == .prerec
  if r.state = .halted then some .busy
  else if r.powerEmpty then some .lowPower
  else if idle && s.cardA.state != .ready && s.cardB.state != .ready then some .noMedia
  else if r.state = .arming then some .busy
  else if r.state = .recording && r.pendingStop.isNone then some .busy
  else if !idle && r.restart then some .busy
  else none

/-- The results of a REC_START that opened no clip (R112). -/
def noStart : List Byte := List.replicate 9 0

/-- The source of a start is given its end (R112). -/
def answerStart (source : StartSource) (status : Status) (result : List Byte) (s : State) : State :=
  match source with
  | .request slot => complete slot status result s
  | .operator => s
  | .cue => s

/-- The pending start ends (R112). -/
def endStart (status : Status) (result : List Byte) (s : State) : State :=
  match s.recorder.pendingStart with
  | some source =>
    answerStart source status result { s with recorder := { s.recorder with pendingStart := none } }
  | none => s

/-- A REC_START that is taken stays in progress (R112). -/
def keepStart (source : StartSource) (s : State) : State :=
  match source with
  | .request slot => keepRunning slot s
  | .operator => s
  | .cue => s

/-- A start is taken (R112). -/
def startTaken (source : StartSource) (s : State) : State :=
  match startRefusal s with
  | some status => answerStart source status noStart s
  | none =>
    let idle := s.recorder.state == .standby || s.recorder.state == .prerec
    let s := keepStart source { s with recorder := { s.recorder with pendingStart := some source } }
    if idle then setRecState .arming s
    else { s with recorder := { s.recorder with restart := true } }

/-- REC_START (R112). -/
def execRecStart (slot : Fin 32) (s : State) : Host.Outcome State Fault Refusal :=
  .next (serve slot (.recStart slot) (startTaken (.request slot)) s)

/-! ### Stops (R113) -/

/-- The restart flag is cleared, and the pending start completes (R113, R114, R115, R119). -/
def clearRestart (status : Status) (s : State) : State :=
  if s.recorder.restart then
    let s := endStart status noStart { s with recorder := { s.recorder with restart := false } }
    if s.recorder.state = .stopping then trimAfter s else s
  else s

/-- A start in ARMING is abandoned (R112 to R115). -/
def abandonArming (status : Status) (s : State) : State := toIdle (endStart status noStart s)

/-- A stop is given with its reason (R113). -/
def stopGiven (reason : StopReason) (s : State) : State :=
  match s.recorder.state with
  | .recording =>
    if s.recorder.pendingStop.isSome then clearRestart .preempted s
    else { s with recorder := { s.recorder with pendingStop := some reason } }
  | .stopping => clearRestart .preempted s
  | .arming => abandonArming .preempted s
  | .standby | .prerec | .halted => s

/-- A cue's stop is an action taken: it makes a stop pending or abandons a start (R113). -/
def stopActs (s : State) : Bool :=
  s.recorder.state == .arming || (s.recorder.state == .recording && s.recorder.pendingStop.isNone)

/-- The results of REC_STOP where there is no clip (R113). -/
def noStop : List Byte := List.replicate 10 0

/-- The results of REC_STOP for a clip; an absent end label or reason reads 0 (R113, log 18). -/
def stopResult (k : Clip) : List Byte :=
  field16 k.number ++ field24 k.frames ++ labelBytes (k.endLabel.getD Label.zero)
    ++ [byteOf ((k.reason.map StopReason.code).getD 0)]

/-- The stop request completes (R113). -/
def endStopRequest (status : Status) (result : List Byte) (s : State) : State :=
  match s.recorder.stopReq with
  | some slot =>
    complete slot status result { s with recorder := { s.recorder with stopReq := none } }
  | none => s

/-- REC_STOP is taken (R113). -/
def recStopTaken (slot : Fin 32) (s : State) : State :=
  match s.recorder.state with
  | .recording | .stopping =>
    let s := keepRunning slot (stopGiven .request s)
    { s with recorder := { s.recorder with stopReq := some slot } }
  | .arming => complete slot .ok noStop (stopGiven .request s)
  | .standby | .prerec | .halted => complete slot .noClip noStop s

/-- REC_STOP (R113). -/
def execRecStop (slot : Fin 32) (s : State) : Host.Outcome State Fault Refusal :=
  .next (serve slot (.recStop slot) (recStopTaken slot) s)

/-! ### Operator presses and power notices (R114, R115) -/

/-- What a press outside the guard does (R114). -/
def pressActs (s : State) : State :=
  match s.recorder.state with
  | .standby | .prerec | .halted => startTaken .operator s
  | .arming => stopGiven .operator s
  | .recording =>
    if s.recorder.pendingStop.isNone then stopGiven .operator s
    else if s.recorder.restart then clearRestart .preempted s
    else startTaken .operator s
  | .stopping => if s.recorder.restart then clearRestart .preempted s else startTaken .operator s

/-- An operator press (R114). -/
def recPressed (s : State) : State :=
  if s.recorder.guardTimer.isSome then s
  else pressActs { s with recorder := { s.recorder with guardTimer := some guardTicks } }

/-- REC_GUARD_EXPIRY (R114). -/
def execRecGuardExpiry (s : State) : Host.Outcome State Fault Refusal :=
  .next { s with recorder := { s.recorder with guardTimer := none } }

/-- GOOD_PULSE_EXPIRY (R129). -/
def execGoodPulseExpiry (s : State) : Host.Outcome State Fault Refusal :=
  .next { s with recorder := { s.recorder with pulse := none } }

/-- A notice that sets the power EMPTY flag (R115). -/
def recPowerEmpty (s : State) : State :=
  match s.recorder.state with
  | .arming => abandonArming .lowPower s
  | .recording =>
    if s.recorder.pendingStop.isNone then stopGiven .lowPower s else clearRestart .lowPower s
  | .stopping => clearRestart .lowPower s
  | .standby | .prerec | .halted => s

/-- The record engine takes a power-state notice (R115). -/
def recPowerNotice (old new : PowerState) (s : State) : State :=
  let flag := if new = .empty then true else if old = .empty then false else s.recorder.powerEmpty
  let s := { s with recorder := { s.recorder with powerEmpty := flag } }
  match new with
  | .empty => recPowerEmpty s
  | .low => addMark .batteryLow (some (batteryPercent s.power.filter s.power.empty)) s
  | .dc | .normal => s

/-! ### Broken clips (R126) -/

/-- A remaining target card is deselected. -/
def dropTarget (c : CardSlot) (s : State) : State :=
  if isTarget c s then setTarget c false (deselect c s) else s

/-- The open clip becomes BROKEN (R126). -/
def breakClip (s : State) : State :=
  let result := match openClip s with
    | some k => stopResult k
    | none => noStop
  let s := updateOpen (fun k => { k with state := .broken }) s
  let s := dropTarget .b (dropTarget .a (setRecState .halted s))
  let s := { s with recorder := { s.recorder with
    pendingStop := none, restart := false, phase := none, awaitA := false, awaitB := false } }
  let s := endStopRequest .mediaFault result (endStart .mediaFault noStart s)
  let lists := s.recorder.held ++ s.recorder.after
  discardAll lists { s with recorder := { s.recorder with held := [], after := [] } }

/-! ### Closing (R125) -/

/-- The end label: the start label plus the frames minus 1 (R125). -/
def endLabelOf (k : Clip) (s : State) : Label :=
  addFrames s.clock.rate s.clock.drop k.start ((k.frames : Int) - 1)

/-- The after-stop list goes on in the idle state (R125, step 5). -/
def closeToIdle (s : State) : State :=
  let s := setRecState (idleState s) s
  let after := s.recorder.after
  keepHeld after { s with recorder := { s.recorder with after := [] } }

/-- The refusal of a restart at close (R112, R125). -/
def restartRefusal (s : State) : Option Status :=
  if s.recorder.powerEmpty then some .lowPower
  else if s.cardA.state != .ready && s.cardB.state != .ready then some .noMedia
  else none

/-- The record engine after a close: the idle state, or the restart (R125, steps 5 and 6). -/
def afterClose (s : State) : State :=
  if s.recorder.restart then
    let s := { s with recorder := { s.recorder with restart := false } }
    match restartRefusal s with
    | some status => closeToIdle (endStart status noStart s)
    | none =>
      let s := setRecState .arming s
      { s with recorder := { s.recorder with held := s.recorder.after, after := [] } }
  else closeToIdle s

/-- The clip closes (R125). -/
def closeClip (s : State) : State :=
  match openClip s with
  | some k =>
    let closed := { k with state := .closed, endLabel := some (endLabelOf k s) }
    let s := dropTarget .b (dropTarget .a s)
    let s := latch .clipClosed (updateOpen (fun _ => closed) s)
    let s := { s with recorder := { s.recorder with phase := none } }
    afterClose (endStopRequest .ok (stopResult closed) s)
  | none => s

/-- The clip closes when every index answer is in (R125). -/
def closeIfIndexed (s : State) : State :=
  if s.recorder.phase = some .indexing && !s.recorder.awaitA && !s.recorder.awaitB then closeClip s else s

/-- A card owes an index answer, or no longer does. -/
def setAwait (c : CardSlot) (on : Bool) (s : State) : State :=
  match c with
  | .a => { s with recorder := { s.recorder with awaitA := on } }
  | .b => { s with recorder := { s.recorder with awaitB := on } }

/-- The INDEX_LOST flag of a card is set (R125). -/
def Clip.loseIndex (c : CardSlot) (k : Clip) : Clip :=
  match c with
  | .a => { k with indexLostA := true }
  | .b => { k with indexLostB := true }

/-- An index answer is recorded (R125). -/
def recordIndexAnswer (c : CardSlot) (lost : Bool) (s : State) : State :=
  let s := setAwait c false s
  if lost then updateOpen (Clip.loseIndex c) s else s

/-- An index answer of a card (R125). -/
def indexAnswered (c : CardSlot) (lost : Bool) (s : State) : State :=
  closeIfIndexed (recordIndexAnswer c lost s)

/-- The clip holds a span on the card with a first block present (R125). -/
def Clip.indexedOn (c : CardSlot) (k : Clip) : Bool :=
  k.spans.any fun sp => sp.card == c && sp.first.isSome

/-- The index record for one card (R104, R125); a span whose first block is still absent is left out (log 51). -/
def indexRecordFor (c : CardSlot) (k : Clip) (s : State) : IndexRecord where
  number := k.number
  start := k.start
  endLabel := endLabelOf k s
  frames := k.frames
  spans := k.spans.filter fun sp => sp.card == c && sp.first.isSome
  preRecord := k.preRecord
  degraded := k.degraded
  marksFull := k.marksFull
  marks := k.marks

/-- An index request to one card that owes an answer: taken, or answered INDEX_LOST at once (R104). -/
def requestIndex (c : CardSlot) (owed : Bool) (k : Clip) (s : State) : State :=
  if owed then
    if (card c s).state.takesIndex then indexRequest c (indexRecordFor c k s) s
    else recordIndexAnswer c true s
  else s

/-- An extent of the clip still has a side QUEUED (R125). -/
def clipQueued (serial : Nat) (s : State) : Bool :=
  s.recorder.essences.any fun e => e.extents.any fun x => x.record == some serial && !x.quiet

/-- DRAINING ends when nothing of the clip is queued: the index requests go out, and INDEXING begins
(R125). -/
def drainIfDone (s : State) : State :=
  match openClip s with
  | some k =>
    if s.recorder.phase = some .draining && !clipQueued k.serial s then
      let a := k.indexedOn .a
      let b := k.indexedOn .b
      let s := { s with recorder := { s.recorder with phase := some .indexing, awaitA := a, awaitB := b } }
      closeIfIndexed (requestIndex .b b k (requestIndex .a a k s))
    else s
  | none => s

/-! ### Handing extents to the cards (R120 to R123) -/

/-- The last span of a clip on a card changed by `f` (log 23). -/
def lastSpan (c : CardSlot) (f : Span → Span) (l : List Span) : List Span :=
  match l with
  | [] => []
  | sp :: rest =>
    if sp.card = c && !(rest.any fun r => r.card == c) then f sp :: rest else sp :: lastSpan c f rest

/-- A new span on a card (R117, R121, R122). -/
def openSpan (c : CardSlot) (s : State) : State :=
  updateOpen (fun k => { k with spans := k.spans ++ [⟨c, none, 0⟩] }) s

/-- The spans of the open clip. -/
def spanCount (s : State) : Nat :=
  match openClip s with
  | some k => k.spans.length
  | none => 0

/-- A QUEUED answer: the side, the clip number with its record, the span's first block (R120). -/
def extentQueued (c : CardSlot) (e : Extent) (first : Nat) (s : State) : State :=
  let k := openClip s
  let s := updateExtent e.slot e.place (fun x => { x.withSide c .queued with
    clip := (k.map Clip.number).getD 0, record := k.map Clip.serial }) s
  updateOpen (fun k => { k with
    spans := lastSpan c (fun sp => { sp with first := some (sp.first.getD first) }) k.spans }) s

/-- An extent is queued to a card and the answer recorded where it is QUEUED (R101, R120). -/
def tryQueue (c : CardSlot) (e : Extent) (s : State) : QueueAnswer × State :=
  let answer := queueAnswer (card c s) e
  let s := match answer with
    | .queued first _ => extentQueued c e first s
    | .noRoom | .notWritable | .queueFull => s
  (answer, queueExtent c e s)

/-- The other slot of a clip can take it over: READY, with fewer than 8 spans (R121, R122). -/
def canRelay (c : CardSlot) (s : State) : Bool :=
  (card (otherCard c) s).state == .ready && decide (spanCount s < 8)

/-- The clip moves onto the other card: selected, a new span, a RELAY mark, RELAY latches (R121, R122). -/
def relayFrom (c : CardSlot) (s : State) : State :=
  let d := otherCard c
  let s := openSpan d (setTarget d true (select d (setTarget c false s)))
  latch .relay (addMark .relay none s)

/-- A NO_ROOM answer in RELAY (R121). -/
def relayFull (c : CardSlot) (e : Extent) (s : State) : State :=
  let refuse (reason : StopReason) (s : State) := settle .discarded e.slot e.place (stopGiven reason s)
  if canRelay c s then
    let d := otherCard c
    let (answer, s) := tryQueue d e (relayFrom c s)
    match answer with
    | .queued _ _ => s
    | .noRoom | .notWritable | .queueFull => refuse .mediaFull (setTarget d false s)
  else
    let ready := (card (otherCard c) s).state == .ready
    let s := setTarget c false s
    if ready then refuse .spanLimit s else refuse .mediaFull s

/-- A returned or refused extent fails on a card, and is settled when nothing of it is still queued. -/
def failSide (c : CardSlot) (e : Extent) (s : State) : State :=
  settleBySides e.slot e.place (setSide c .failed e.slot e.place s)

/-- Returned extents fail on a card, in order. -/
def failAll (c : CardSlot) (l : List Extent) (s : State) : State :=
  l.foldl (fun s e => failSide c e s) s

/-- Returned extents go to the new card of a relay, in order; from the first that is refused on, they are
settled LOST, DEGRADED is set, and a stop with reason MEDIA_FULL follows (R122). -/
def requeueAll (lost : CardSlot) (l : List Extent) (s : State) : State :=
  match l with
  | [] => s
  | e :: rest =>
    let d := otherCard lost
    let (answer, s) := tryQueue d e s
    match answer with
    | .queued _ _ => requeueAll lost rest s
    | .noRoom | .notWritable | .queueFull =>
      stopGiven .mediaFull (degrade lost (failAll lost (e :: rest) (setTarget d false s)))

/-- A card that is no part of an OPEN or CLOSING clip returns extents (R122, case 1). -/
def lostElsewhere (c : CardSlot) (returned : List Extent) (s : State) : State :=
  let s := failAll c returned s
  if (openClip s).isSome then degrade c s else s

/-- The clip breaks with the returned extents LOST (R122, R123). -/
def loseClip (c : CardSlot) (returned : List Extent) (s : State) : State :=
  breakClip (failAll c returned s)

/-- The loss of a target card in RELAY, cases 2 to 5 (R122). -/
def lostInRelay (c : CardSlot) (returned : List Extent) (s : State) : State :=
  if s.recorder.phase = some .indexing then failAll c returned s
  else if s.recorder.phase = some .draining && returned.isEmpty then setTarget c false s
  else if canRelay c s then
    let s := returned.foldl (fun s e => setSide c .failed e.slot e.place s) s
    requeueAll c returned (relayFrom c s)
  else loseClip c returned s

/-- The loss of a target card in MIRROR (R123). -/
def lostInMirror (c : CardSlot) (returned : List Extent) (s : State) : State :=
  let s := setTarget c false s
  if hasTarget s then failAll c returned (degrade c s)
  else if s.recorder.phase.isSome && returned.isEmpty then s
  else if s.recorder.phase = some .indexing then failAll c returned s
  else loseClip c returned s

/-- A card is lost to the clip with its returned list (R122, R123); DRAINING may end by it (R125). -/
def cardLost (c : CardSlot) (returned : List Extent) (s : State) : State :=
  let s :=
    if (openClip s).isNone || !isTarget c s then lostElsewhere c returned s
    else if s.recorder.mirror then lostInMirror c returned s
    else lostInRelay c returned s
  drainIfDone s

/-- One card's answer in MIRROR to an extent in hand (R120, R123): a refusing card leaves the target cards;
the extent is settled when both cards have answered, or here when no target remains. -/
def mirrorQueue (c : CardSlot) (e : Extent) (s : State) : State :=
  if isTarget c s then
    let (answer, s) := tryQueue c e s
    match answer with
    | .queued _ _ => s
    | .noRoom | .queueFull =>
      let s := setTarget c false s
      if hasTarget s then degrade c (setSide c .failed e.slot e.place s)
      else settle .discarded e.slot e.place (stopGiven .mediaFull s)
    | .notWritable =>
      let s := setTarget c false s
      if hasTarget s then degrade c (setSide c .failed e.slot e.place s) else loseClip c [e] s
  else s

/-- An extent in REC is handed to the target cards (R120); in MIRROR to A first and then to B (log 50). -/
def handOver (e : Extent) (s : State) : State :=
  if !hasTarget s then settle .discarded e.slot e.place s
  else if s.recorder.mirror then
    settleBySides e.slot e.place (mirrorQueue .b e (mirrorQueue .a e s))
  else
    let c := if s.recorder.targetA then CardSlot.a else CardSlot.b
    let (answer, s) := tryQueue c e s
    match answer with
    | .queued _ _ => s
    | .noRoom => relayFull c e s
    | .notWritable => cardLost c [e] s
    | .queueFull => settle .discarded e.slot e.place s

/-- The blocks written are added to the span of that card, in the clip that the extent was queued for, while its
record is in the table (R120, log 23). -/
def creditSpan (c : CardSlot) (record : Option Nat) (blocks : Nat) (s : State) : State :=
  { s with recorder := { s.recorder with
    clips := s.recorder.clips.map fun k =>
      if record = some k.serial then
        { k with spans := lastSpan c (fun sp => { sp with blocks := sp.blocks + blocks }) k.spans }
      else k } }

/-- A queued extent is answered WRITTEN or SOURCE_ERROR (R120, R124); DRAINING may end by it (R125). -/
def extentAnswered (c : CardSlot) (entry : QueueEntry) (written : Bool) (s : State) : State :=
  let e := entry.extent
  let record := (essenceExtent e.slot e.place s).bind EssenceExtent.record
  let s := creditSpan c record entry.blocks s
  let s := setSide c (if written then .written else .failed) e.slot e.place s
  drainIfDone (settleBySides e.slot e.place s)

/-! ### Opening (R117) -/

/-- The cards chosen for a new clip (R117, step 1). -/
def chosenCards (s : State) : List CardSlot :=
  let ready (c : CardSlot) : Bool := (card c s).state == .ready
  if s.recorder.mirror then [CardSlot.a, .b].filter ready
  else if ready s.recorder.preferred then [s.recorder.preferred]
  else if ready (otherCard s.recorder.preferred) then [otherCard s.recorder.preferred]
  else []

/-- The clip table with room for a new record: the oldest record that is CLOSED or BROKEN is evicted from a
full table (R110). -/
def evict (clips : List Clip) : List Clip :=
  if clips.length ≥ 32 then clips.eraseP fun k => !k.state.inProgress else clips

/-- The next clip number after a number (R110). -/
def clipAfter (n : Nat) : Nat := if n ≥ 9999 then 1 else n + 1

/-- The record of a new clip (R117). -/
def newClip (cards : List CardSlot) (label : Label) (held : Nat) (s : State) : Clip where
  serial := s.recorder.opened
  number := s.recorder.nextClip
  state := .opened
  start := addFrames s.clock.rate s.clock.drop label (-(held : Int))
  endLabel := none
  frames := held + 1
  spans := cards.map fun c => ⟨c, none, 0⟩
  marks := []
  preRecord := decide (held > 0)
  degraded := false
  marksFull := false
  indexLostA := false
  indexLostB := false
  erased := false
  reason := none

/-- The results of a REC_START that opened a clip (R112). -/
def startResult (k : Clip) (held : Nat) : List Byte := field16 k.number ++ labelBytes k.start ++ field24 held

/-- The clip opens on the cards chosen (R117, steps 4 to 8). The state is REC before the held extents are handed over,
so that the REC handling of R120 meets them as in REC (DESIGN CHOICE, log 59). -/
def openOn (cards : List CardSlot) (label : Label) (s : State) : State :=
  let extents := s.recorder.held
  let held := totalFrames extents
  let k := newClip cards label held s
  let s := { s with recorder := { s.recorder with
    clips := evict s.recorder.clips ++ [k], nextClip := clipAfter s.recorder.nextClip
    opened := s.recorder.opened + 1, held := [] } }
  let s := cards.foldl (fun s c => setTarget c true s) s
  let s := match s.recorder.mirror, cards with
    | true, [c] => degrade (otherCard c) s
    | _, _ => s
  let s := setRecState .recording s
  let s := extents.foldl (fun s e => handOver e s) s
  endStart .ok (startResult k held) s

/-- A clip opens from ARMING at a frame start with its label (R117). -/
def clipOpens (label : Label) (s : State) : State :=
  match chosenCards s with
  | [] => toIdle (endStart .noMedia noStart s)
  | cards => openOn cards label (cards.foldl (fun s c => select c s) s)

/-! ### Essence (R118, R119) -/

/-- An extent arrives (R119). -/
def extentArrives (e : Extent) (s : State) : State :=
  let hold (s : State) : State := { s with recorder := { s.recorder with held := s.recorder.held ++ [e] } }
  let keep (s : State) : State := { s with recorder := { s.recorder with after := s.recorder.after ++ [e] } }
  match s.recorder.state with
  | .standby | .halted => settle .discarded e.slot e.place s
  | .prerec => keepHeld (s.recorder.held ++ [e]) s
  | .arming => hold s
  | .recording => handOver e s
  | .stopping => if s.recorder.restart then keep s else trimAfter (keep s)

/-- An extent within its ranges (R118). -/
def ExtentParam.valid (p : ExtentParam) : Bool :=
  decide (1 ≤ p.length.toNat) && decide (p.length.toNat ≤ 8388608) && decide (1 ≤ p.frames.toNat)
    && decide (p.frames.toNat ≤ 600)

/-- The extents of a request, numbered from a place on. -/
def numberExtents (slot : Fin 32) (place : Nat) : List ExtentParam → List Extent
  | [] => []
  | p :: rest =>
    ⟨slot, place, p.address.toNat, p.length.toNat, p.frames.toNat⟩ :: numberExtents slot (place + 1) rest

/-- The essence record of a request whose extents are not yet settled (R118). -/
def newEssence (slot : Fin 32) (n : Nat) : Essence :=
  ⟨slot, n, List.replicate n ⟨none, 0, none, .none, .none⟩⟩

/-- WRITE_ESSENCE is taken (R118). -/
def writeEssenceTaken (slot : Fin 32) (extents : List ExtentParam) (s : State) : State :=
  if 1 ≤ extents.length && extents.length ≤ 16 && extents.all ExtentParam.valid then
    let s := keepRunning slot s
    let s := { s with recorder := { s.recorder with
      essences := s.recorder.essences ++ [newEssence slot extents.length] } }
    (numberExtents slot 0 extents).foldl (fun s e => extentArrives e s) s
  else completeFree slot .badValue s

/-- WRITE_ESSENCE (R118). -/
def execWriteEssence (slot : Fin 32) (extents : List ExtentParam) (s : State) :
    Host.Outcome State Fault Refusal :=
  .next (serve slot (.writeEssence slot extents) (writeEssenceTaken slot extents) s)

/-! ### Halt, marks, settings, listing (R126, R128, R130, R131) -/

/-- CLEAR_HALT is taken (R126). -/
def clearHaltTaken (slot : Fin 32) (s : State) : State :=
  let s := if s.recorder.state = .halted then toIdle s else s
  complete slot .ok [byteOf s.recorder.state.code] s

/-- CLEAR_HALT (R126). -/
def execClearHalt (slot : Fin 32) (s : State) : Host.Outcome State Fault Refusal :=
  .next (serve slot (.clearHalt slot) (clearHaltTaken slot) s)

/-- The results of MARK: the frame offset and the number of marks (R128). -/
def markResult (k : Clip) : List Byte := field32 ((k.frames - 1 : Nat) : Int) ++ [byteOf k.marks.length]

/-- MARK is taken (R128). -/
def markRequestTaken (slot : Fin 32) (kind detail : Byte) (s : State) : State :=
  if kind.toNat > 1 then completeFree slot .badValue s
  else if markTaken .good s then
    let status := if marksFull s then Status.discarded else .ok
    let s := if kind = 0 then addMark .good none s else addMark .cue (some detail.toNat) s
    match openClip s with
    | some k => complete slot status (markResult k) s
    | none => completeFree slot status s
  else completeFree slot .noClip s

/-- MARK (R128). -/
def execMark (slot : Fin 32) (kind detail : Byte) (s : State) : Host.Outcome State Fault Refusal :=
  .next (serve slot (.mark slot kind detail) (markRequestTaken slot kind detail) s)

/-- The four values in force (R130). -/
def recModeResult (r : Recorder) : List Byte :=
  [byteOf (bit r.mirror), byteOf (cardCode r.preferred)] ++ field16 r.limit ++ field16 r.bitrate

/-- SET_REC_MODE is taken (R130); BAD_VALUE is tested before BUSY (log 45). -/
def setRecModeTaken (slot : Fin 32) (mode preferred : Byte) (limit bitrate : BitVec 16) (s : State) : State :=
  let answer (status : Status) (s : State) := complete slot status (recModeResult s.recorder) s
  if mode.toNat > 1 || preferred.toNat > 1 then answer .badValue s
  else if s.recorder.state != .standby && s.recorder.state != .prerec then answer .busy s
  else
    let l := min limit.toNat 600
    let b := clampNat 10 600 bitrate.toNat
    let s := { s with recorder := { s.recorder with
      mirror := mode == 1, preferred := if preferred = 0 then .a else .b, limit := l, bitrate := b } }
    answer (okStatus (l != limit.toNat || b != bitrate.toNat)) (toIdle s)

/-- SET_REC_MODE (R130). -/
def execSetRecMode (slot : Fin 32) (mode preferred : Byte) (limit bitrate : BitVec 16) (s : State) :
    Host.Outcome State Fault Refusal :=
  .next (serve slot (.setRecMode slot mode preferred limit bitrate)
    (setRecModeTaken slot mode preferred limit bitrate) s)

/-- The 18 bytes of a clip summary (section 11.6). -/
def clipSummary (k : Clip) : List Byte :=
  field16 k.number ++ [packed [(k.state.code, 0), (bit k.endLabel.isSome, 7)]]
    ++ labelBytes k.start ++ labelBytes (k.endLabel.getD Label.zero) ++ field24 k.frames
    ++ [byteOf k.spans.length, byteOf k.marks.length,
        packed [(bit k.preRecord, 0), (bit k.degraded, 1), (bit k.marksFull, 2), (bit k.indexLostA, 3),
          (bit k.indexLostB, 4), (bit k.erased, 5)],
        byteOf ((k.reason.map StopReason.code).getD 0)]

/-- The results of LIST_CLIPS (R131, section 11.6). -/
def listResult (start : Nat) (clips : List Clip) : List Byte :=
  let listed := (clips.drop start).take 8
  [byteOf clips.length, byteOf listed.length] ++ listed.flatMap clipSummary

/-- LIST_CLIPS is taken (R131). -/
def listClipsTaken (slot : Fin 32) (start : Byte) (s : State) : State :=
  if start.toNat > 31 then completeFree slot .badValue s
  else complete slot .ok (listResult start.toNat s.recorder.clips) s

/-- LIST_CLIPS (R131). -/
def execListClips (slot : Fin 32) (start : Byte) (s : State) : Host.Outcome State Fault Refusal :=
  .next (serve slot (.listClips slot start) (listClipsTaken slot start) s)

/-! ### Notices of other blocks (R110, R132) -/

/-- SET_VIDEO_FORMAT has been accepted: the held extents are discarded (R132). -/
def recFormatNotice (s : State) : State :=
  let held := s.recorder.held
  discardAll held { s with recorder := { s.recorder with held := [] } }

/-- The TC mode has changed: the held extents of PREREC are discarded, and the idle state derived again
(R132). -/
def recTcModeNotice (s : State) : State :=
  match s.recorder.state with
  | .prerec => toIdle (recFormatNotice s)
  | .standby => toIdle s
  | .arming | .recording | .stopping | .halted => s

/-- A mounted card hands over its last clip number (R110). -/
def takeLastClip (n : Nat) (s : State) : State :=
  if n = 0 then s
  else { s with recorder := { s.recorder with nextClip := max s.recorder.nextClip (clipAfter n) } }

/-- A card was erased (R132). -/
def cardErased (c : CardSlot) (s : State) : State :=
  { s with recorder := { s.recorder with
    clips := s.recorder.clips.map fun k => if k.spansOn c then { k with erased := true } else k } }

end Sys2Proof.Machine
end

