-- ==== Sys2Proof/Machine/Audio.lean ====
section
/-! DEFINITION. The audio level controller (Chapter 8). -/

namespace Sys2Proof.Machine

/-! ### The codec write queue (R145) -/

/-- Two items for one pair of channel and item (R145). -/
def CodecItem.samePair (x y : CodecItem) : Bool :=
  x.channel == y.channel && match x.value, y.value with
    | .gain _, .gain _ => true
    | .mute _, .mute _ => true
    | .input _ _, .input _ _ => true
    | _, _ => false

/-- The queue with an item that becomes pending: in the place of the same pair's item, or at the tail
(R145). -/
def pendItem (x : CodecItem) (queue : List CodecItem) : List CodecItem :=
  if queue.any x.samePair then queue.map fun y => if x.samePair y then x else y else queue ++ [x]

/-- An item becomes pending, and a free link starts the head item (R145). -/
def Audio.pend (x : CodecItem) (a : Audio) : Audio := { a with queue := pendItem x a.queue }.kick

/-- One channel's record changed by `f`. -/
def Audio.update (i : Fin 4) (f : AudioChannel → AudioChannel) (a : Audio) : Audio :=
  { a with channels := modify a.channels i f }

/-- The channels each changed by `f`. -/
def Audio.updateAll (f : AudioChannel → AudioChannel) (a : Audio) : Audio :=
  { a with channels := mapBank f a.channels }

/-- CODEC_WRITE_END (R145). -/
def execCodecWriteEnd (s : State) : Host.Outcome State Fault Refusal :=
  .next { s with audio := { s.audio with inFlight := none }.kick }

/-! ### The serial input (R135, R136) -/

/-- The magnitude of a sample, saturated (R135). -/
def sampleMagnitude (x : BitVec 24) : Nat := min x.toInt.natAbs 8388607

/-- A sample taken into a peak accumulator (R135). -/
def AudioChannel.takeSample (x : BitVec 24) (c : AudioChannel) : AudioChannel :=
  { c with peak := some (max (c.peak.getD 0) (sampleMagnitude x)) }

/-- The four samples of an audio frame (R135). -/
def takeSamples (samples : Vector (BitVec 24) 4) (a : Audio) : Audio :=
  { a with channels := Vector.ofFn fun i => a.channels[i].takeSample samples[i] }

/-- An audio frame is received, with its frame sync (R135, R136). -/
def audioFrameTaken (samples : Vector (BitVec 24) 4) (a : Audio) : Audio :=
  let a := { a with gap := 0 }
  if a.lost then { a with recovery := some (a.recovery.getD 0) } else takeSamples samples a

/-- AUDIO_FRAME (R135). -/
def execAudioFrame (sample1 sample2 sample3 sample4 : BitVec 24) (s : State) :
    Host.Outcome State Fault Refusal :=
  .next { s with audio := audioFrameTaken #v[sample1, sample2, sample3, sample4] s.audio }

/-- A channel at the loss of the input (R136). -/
def AudioChannel.silence (c : AudioChannel) : AudioChannel :=
  { c with peak := none, level := -300, held := -300, holdCount := 0, overFlag := false }

/-- The sync gap timer reaches 1 ms (R136). -/
def syncGapExpired (s : State) : State :=
  let a := { s.audio with gap := gapTicks }
  if a.lost then { s with audio := { a with recovery := none } }
  else
    latch .audioInput
      { s with audio := { a.updateAll AudioChannel.silence with lost := true, recovery := none } }

/-- SYNC_GAP_EXPIRY (R136). -/
def execSyncGapExpiry (s : State) : Host.Outcome State Fault Refusal := .next (syncGapExpired s)

/-- The recovery timer reaches 10 ms (R136). -/
def recoveryExpired (s : State) : State :=
  if s.audio.lost && s.audio.recovery.isSome then
    latch .audioInput { s with audio :=
      { s.audio.updateAll (fun c => { c with peak := none }) with lost := false, recovery := none } }
  else s

/-- RECOVERY_TIMER_EXPIRY (R136). -/
def execRecoveryTimerExpiry (s : State) : Host.Outcome State Fault Refusal := .next (recoveryExpired s)

/-! ### The meter (R137, R138) -/

/-- The table of R137. -/
def meterTable : List Int := [0, 1, 2, 3, 4, 5, 6, 6, 7, 8, 8, 9, 10, 10, 11, 11]

/-- The meter level of a peak (R137). -/
def meterLevel (peak : Nat) : Int :=
  if peak = 0 then -300
  else
    let p := Nat.log2 peak
    let m := peak * 16 / 2 ^ p % 16
    meterTable.getD m 0 - 12 * ((23 - p : Nat) : Int)

/-- The peak closes and L is found (R135, R136, R137). -/
def AudioChannel.close (lost : Bool) (c : AudioChannel) : AudioChannel :=
  { c with peak := none, level := if lost then -300 else meterLevel (c.peak.getD 0) }

/-- The displayed meter is updated (R138). -/
def AudioChannel.meter (holdTime : Nat) (c : AudioChannel) : AudioChannel :=
  if c.level ≥ c.held then { c with held := c.level, holdCount := holdTime }
  else if c.holdCount > 0 then { c with holdCount := c.holdCount - 1 }
  else { c with held := max (c.held - 3) c.level, overFlag := false }

/-! ### Overs (R139) -/

/-- Over detection on a channel, with its mark (R139). -/
def overTest (i : Fin 4) (s : State) : State :=
  let c := s.audio.channels[i]
  if !s.audio.lost && decide (c.level ≥ s.audio.overThreshold) then
    let s := latch .audioOver { s with audio := s.audio.update i fun c => { c with overFlag := true } }
    if c.spacing = 0 then
      let answered := markTaken .audioOver s
      let s := addMark .audioOver (some (i.val + 1)) s
      if answered then
        { s with audio := s.audio.update i fun c => { c with spacing := 2 * s.clock.rate.labelRate } }
      else s
    else s
  else s

/-! ### Limiter, AGC, gain (R140 to R144) -/

/-- The limiter does not act: input LOST or channel muted (R141, R142). -/
def AudioChannel.frozen (lost : Bool) (c : AudioChannel) : Bool := lost || decide (c.mute > 0)

/-- The limiter of a channel in a manual mode (R141). -/
def AudioChannel.limit (lost : Bool) (threshold : Int) (c : AudioChannel) : AudioChannel :=
  if c.frozen lost then { c with release := 0 }
  else if c.level ≥ threshold then { c with reduction := min (c.reduction + 4) 24, release := 0 }
  else if c.level < threshold - 6 then
    if c.release + 1 ≥ 4 then { c with reduction := c.reduction - 1, release := 0 }
    else { c with release := c.release + 1 }
  else { c with release := 0 }

/-- The release count reaches 4 at this frame close (R141). -/
def AudioChannel.releases (lost : Bool) (threshold : Int) (c : AudioChannel) : Bool :=
  c.mode != .auto && !c.frozen lost && decide (c.level < threshold - 6) && decide (c.release + 1 ≥ 4)

/-- The zoom freeze is in force on a channel (R142). -/
def AudioChannel.zoomFrozen (applied : Int) (c : AudioChannel) : Bool :=
  c.source == .intMic && decide (applied.natAbs > 64)

/-- The AGC of a channel in AUTO (R142). -/
def AudioChannel.control (a : Audio) (applied : Int) (c : AudioChannel) : AudioChannel :=
  if c.frozen a.lost then { c with quiet := 0 }
  else if c.level > a.target + 6 then { c with agc := c.agc - 2, quiet := 0 }
  else if c.level < a.target - 12 then
    if c.zoomFrozen applied then { c with quiet := 0 }
    else if c.quiet ≥ 30 then { c with agc := min (c.agc + 1) a.ceiling }
    else { c with quiet := c.quiet + 1 }
  else { c with quiet := 0 }

/-- The AGC gain rises at this frame close (R142). -/
def AudioChannel.rises (a : Audio) (applied : Int) (c : AudioChannel) : Bool :=
  c.mode == .auto && !c.frozen a.lost && decide (c.level ≤ a.target + 6) && decide (c.level < a.target - 12)
    && !c.zoomFrozen applied && decide (c.quiet ≥ 30)

/-- The limiter or the AGC runs, by the gain mode (R141, R142). -/
def AudioChannel.level4 (a : Audio) (applied : Int) (c : AudioChannel) : AudioChannel :=
  match c.mode with
  | .auto => c.control a applied
  | .pot => c.limit a.lost a.limitThreshold
  | .host => c.limit a.lost a.limitThreshold

/-- The gain that step 6 derives (R140, R141, R143). -/
def AudioChannel.gain (c : AudioChannel) : Nat :=
  match c.mode with
  | .pot => c.pot.getD 0 - c.reduction
  | .host => c.hostGain - c.reduction
  | .auto => c.agc

/-- The mute count goes down, and at 0 a mute OFF write becomes pending (R143, R144). -/
def muteStep (i : Fin 4) (a : Audio) : Audio :=
  let n := a.channels[i].mute
  if n = 0 then a
  else
    let a := a.update i fun c => { c with mute := n - 1 }
    if n = 1 then a.pend ⟨i, .mute false⟩ else a

/-- The applied gain is derived, and a gain write made pending where it differs (R143). -/
def gainStep (i : Fin 4) (a : Audio) : Audio :=
  if a.lost then a
  else
    let g := a.channels[i].gain
    let differs := g != a.channels[i].lastGain
    let a := a.update i fun c => { c with applied := g, lastGain := g }
    if differs then a.pend ⟨i, .gain g⟩ else a

/-- Steps 1 to 3 on a channel: peak, meter, spacing and over (R143). -/
def audioMeterSteps (i : Fin 4) (s : State) : State :=
  let a := s.audio.update i fun c =>
    let c := (c.close s.audio.lost).meter s.audio.holdTime
    { c with spacing := c.spacing - 1 }
  overTest i { s with audio := a }

/-- The steps of one channel at a frame start (R143). -/
def audioChannelFrame (i : Fin 4) (s : State) : State :=
  let s := audioMeterSteps i s
  let a := s.audio.update i (AudioChannel.level4 s.audio s.zoom.applied)
  { s with audio := gainStep i (muteStep i a) }

/-- The audio level controller takes the frame-start notice: each channel in order (R143). -/
def audioFrame (s : State) : State :=
  (List.finRange 4).foldl (fun s i => audioChannelFrame i s) s

/-- The mute count of a channel reaches 0 at this frame start (R144). -/
def muteExpiryDue (i : Fin 4) (s : State) : Bool := s.audio.channels[i].mute == 1

/-- The release count of a channel reaches 4 at this frame start (R141). -/
def limiterReleaseDue (i : Fin 4) (s : State) : Bool :=
  (audioMeterSteps i s).audio.channels[i].releases s.audio.lost s.audio.limitThreshold

/-- The AGC gain of a channel rises at this frame start (R142). -/
def agcRiseDue (i : Fin 4) (s : State) : Bool :=
  (audioMeterSteps i s).audio.channels[i].rises s.audio s.zoom.applied

/-- A completed conversion of a pot: the pot gain of its channel (R140). -/
def potSample (i : Fin 4) (code : Nat) (s : State) : State :=
  { s with audio := s.audio.update i fun c => { c with pot := some (code / 32) } }

/-! ### Requests (R144, R146, R147) -/

/-- The source of a code (R146). -/
def AudioSource.ofCode : Nat → Option AudioSource
  | 0 => some .intMic | 1 => some .extMic | 2 => some .line | _ => none

/-- The gain mode of a code (R146). -/
def GainMode.ofCode : Nat → Option GainMode
  | 0 => some .pot | 1 => some .host | 2 => some .auto | _ => none

/-- A group of AUDIO_CONFIG that its channel can take: source, phantom, mode and host gain (R146). -/
def audioGroup (i : Fin 4) (g : AudioParam) : Option (AudioSource × Bool × GainMode × Nat) :=
  match AudioSource.ofCode g.source.toNat, GainMode.ofCode g.gainMode.toNat with
  | some source, some mode =>
    if g.phantom.toNat > 1 then none
    else if mode = .pot && i.val ≥ 2 then none
    else if g.phantom = 1 && source != .extMic then none
    else some (source, g.phantom == 1, mode, min g.hostGain.toNat 127)
  | _, _ => none

/-- A switch of a channel's input (R144): mute count, mute ON write, input write, AUDIO_SWITCH mark. During
a mute the mute ON write is made pending again only when it has been written. -/
def audioSwitch (i : Fin 4) (source : AudioSource) (phantom : Bool) (s : State) : State :=
  let a := s.audio
  let unwritten := decide (a.channels[i].mute > 0) && a.inFlight == some ⟨i, .mute true⟩
  let a := a.update i fun c => { c with source := source, phantom := phantom, mute := 25 }
  let a := if unwritten then a else a.pend ⟨i, .mute true⟩
  let s := { s with audio := a.pend ⟨i, .input source phantom⟩ }
  addMark .audioSwitch (some (i.val + 1)) s

/-- A channel takes a gain mode: a change to or from AUTO resets the limiter, and AUTO starts from the
applied gain (R141, R142, R146). -/
def AudioChannel.setMode (mode : GainMode) (ceiling : Nat) (c : AudioChannel) : AudioChannel :=
  if c.mode = mode then c
  else if mode = .auto then
    { c with mode := mode, reduction := 0, release := 0, agc := min c.applied ceiling, quiet := 0 }
  else if c.mode = .auto then { c with mode := mode, reduction := 0, release := 0 }
  else { c with mode := mode }

/-- A channel takes its values (R146). -/
def configureChannel (i : Fin 4) (g : AudioParam) (s : State) : State :=
  match audioGroup i g with
  | some (source, phantom, mode, gain) =>
    let c := s.audio.channels[i]
    let s := if c.source != source || c.phantom != phantom then audioSwitch i source phantom s else s
    { s with audio := s.audio.update i fun c =>
        { c.setMode mode s.audio.ceiling with hostGain := gain } }
  | none => s

/-- The results of AUDIO_CONFIG (R146). -/
def audioConfigResult (a : Audio) : List Byte :=
  a.channels.toList.flatMap fun c =>
    [byteOf c.source.code, byteOf (bit c.phantom), byteOf c.mode.code, byteOf c.hostGain, byteOf c.applied]

/-- The group of a channel; a channel beyond the list keeps no group. -/
def groupOf (groups : List AudioParam) (i : Fin 4) : Option AudioParam := groups[i.val]?

/-- Every channel can take its group (R146). -/
def audioGroupsValid (groups : List AudioParam) : Bool :=
  (List.finRange 4).all fun i => match groupOf groups i with
    | some g => (audioGroup i g).isSome
    | none => false

/-- AUDIO_CONFIG is taken (R146). -/
def audioConfigTaken (slot : Fin 32) (groups : List AudioParam) (s : State) : State :=
  let answer (status : Status) (s : State) := complete slot status (audioConfigResult s.audio) s
  if audioGroupsValid groups then
    let adjusted := groups.any fun g => decide (g.hostGain.toNat > 127)
    answer (okStatus adjusted) <|
      (List.finRange 4).foldl (fun s i => match groupOf groups i with
        | some g => configureChannel i g s
        | none => s) s
  else answer .badValue s

/-- AUDIO_CONFIG (R146). -/
def execAudioConfig (slot : Fin 32) (groups : List AudioParam) (s : State) :
    Host.Outcome State Fault Refusal :=
  .next (serve slot (.audioConfig slot groups) (audioConfigTaken slot groups) s)

/-- The results of AUDIO_LEVELS (R147). -/
def audioLevelsResult (a : Audio) : List Byte :=
  byteOf a.holdTime :: (field16 a.overThreshold ++ field16 a.limitThreshold ++ field16 a.target
    ++ [byteOf a.ceiling])

/-- AUDIO_LEVELS is taken (R147). -/
def audioLevelsTaken (slot : Fin 32) (hold : Byte) (overLevel limit target : BitVec 16) (ceiling : Byte)
    (s : State) : State :=
  let h := clampNat 1 250 hold.toNat
  let o := clampInt (-276) (-1) overLevel.toInt
  let l := clampInt (-276) (-1) limit.toInt
  let t := clampInt (-200) (-20) target.toInt
  let c := min ceiling.toNat 127
  let adjusted := h != hold.toNat || o != overLevel.toInt || l != limit.toInt || t != target.toInt
    || c != ceiling.toNat
  let a := { s.audio with
    holdTime := h, overThreshold := o, limitThreshold := l, target := t, ceiling := c }
  let a := a.updateAll fun x => if x.mode = .auto then { x with agc := min x.agc c } else x
  complete slot (okStatus adjusted) (audioLevelsResult a) { s with audio := a }

/-- AUDIO_LEVELS (R147). -/
def execAudioLevels (slot : Fin 32) (hold : Byte) (overLevel limit target : BitVec 16) (ceiling : Byte)
    (s : State) : Host.Outcome State Fault Refusal :=
  .next (serve slot (.audioLevels slot hold overLevel limit target ceiling)
    (audioLevelsTaken slot hold overLevel limit target ceiling) s)

end Sys2Proof.Machine
end

