-- ==== Sys2Proof/Machine/Tracking.lean ====
section
/-! DEFINITION. The interpolations of the tracking block (R63, R64, R65) and the lens table block
(R61, R62, section 11.6). -/

namespace Sys2Proof.Machine

/-- The knot below a zoom position, k = min(Z div 256, 15) (R63). -/
def knotOf (z : Nat) : Nat := min (z / 256) 15

/-- The distance past the knot, f = Z − 256 × k (R63). -/
def pastKnot (z : Nat) : Nat := z - 256 * knotOf z

/-- The focal length at a zoom position, in µm (R63). -/
def focalLengthAt (focal : List Nat) (z : Nat) : Nat :=
  let k := knotOf z
  let f := pastKnot z
  (focal.getD k 0 * (256 - f) + focal.getD (k + 1) 0 * f + 128) / 256

/-- T[r][k] of a row-major tracking table. -/
def tableAt (table : List Nat) (r k : Nat) : Nat := table.getD (17 * r + k) 0

/-- A row between two knots, times 256: T[r][k] × (256 − f) + T[r][k + 1] × f (R64). -/
def rowAt (table : List Nat) (r z : Nat) : Nat :=
  tableAt table r (knotOf z) * (256 - pastKnot z) + tableAt table r (knotOf z + 1) * pastKnot z

/-- The tracking target for a zoom position and a distance parameter (R64). -/
def trackingTarget (table : List Nat) (z d : Nat) : Nat :=
  let r := min (d / 256) 7
  let g := d - 256 * r
  (rowAt table r z * (256 - g) + rowAt table (r + 1) z * g + 32768) / 65536

/-- c_r of the inverse (R65). -/
def inverseRow (table : List Nat) (r z : Nat) : Nat := (rowAt table r z + 128) / 256

/-- The inverse: the D whose tracking target at `z` lies at `fv` (R65). -/
def inverseD (table : List Nat) (z fv : Nat) : Nat :=
  if fv < inverseRow table 0 z then 0
  else if fv > inverseRow table 8 z then 2048
  else
    match (List.range 8).find? fun r =>
        decide (inverseRow table r z ≤ fv) && decide (fv ≤ inverseRow table (r + 1) z) with
    | some r =>
      let low := inverseRow table r z
      let high := inverseRow table (r + 1) z
      256 * r + (if high = low then 0 else 256 * (fv - low) / (high - low))
    | none => 2048

/-! ### The lens table block -/

/-- The values of a lens table block (R61). -/
structure LensBlock where
  focal   : List Nat
  table   : List Nat
  wide    : Nat
  tele    : Nat
  softMin : Nat
  softMax : Nat
  near    : Nat
  deriving DecidableEq, Repr

/-- The fields of the 384 bytes (section 11.6). -/
def LensBlock.ofBytes (bytes : List Byte) : LensBlock where
  focal := (List.range 17).map fun k => fieldAt bytes (4 * k) 4
  table := (List.range 153).map fun i => fieldAt bytes (68 + 2 * i) 2
  wide := fieldAt bytes 374 2
  tele := fieldAt bytes 376 2
  softMin := fieldAt bytes 378 2
  softMax := fieldAt bytes 380 2
  near := fieldAt bytes 382 2

/-- The six checks of R62, in order. -/
def LensBlock.checks (b : LensBlock) : List Bool :=
  [ b.focal.all (fun f => decide (1000 ≤ f) && decide (f ≤ 1000000))
      && (List.range 16).all (fun k => decide (b.focal.getD k 0 ≤ b.focal.getD (k + 1) 0)),
    (List.range 17).all (fun k => (List.range 8).all fun r =>
      decide (tableAt b.table r k ≤ tableAt b.table (r + 1) k)),
    b.table.all (fun t => decide (t ≤ 8191)),
    decide (b.wide ≤ 4095) && decide (b.tele ≤ 4095) && decide (b.wide + 256 ≤ b.tele),
    decide (b.softMin ≤ 4095) && decide (b.softMax ≤ 4095) && decide (b.softMin < b.softMax),
    decide (b.near ≤ 8191) ]

/-- 0 when the block passes every check, otherwise the number of the first check that fails (R62). -/
def LensBlock.firstFailure (b : LensBlock) : Nat :=
  match b.checks.findIdx? (fun ok => !ok) with
  | some i => i + 1
  | none => 0

end Sys2Proof.Machine
end

