-- ==== Sys2Proof/Machine/LensBase.lean ====
section
/-! DEFINITION. The shared operations of the lens drive and the tracking block: the applied zoom speed
(R45 to R47), the focus lag (R67), the change of a target, holders, the conflict record (R42), and the
claims of a recall with its end (R72, R73). -/

namespace Sys2Proof.Machine

/-! ### Applied speed (R45, R46, R47) -/

/-- The lag inhibit after step 1 of R45. -/
def lagInhibitNow (s : State) : Bool :=
  if s.track.on && decide (s.track.lag > 256) then true
  else if decide (s.track.lag < 64) || !s.track.on then false
  else s.zoom.lagInhibit

/-- The speed after steps 1 and 2 of R45: tracking lag and power. -/
def speedAfterPower (s : State) : Int :=
  let v1 :=
    if lagInhibitNow s then 0
    else if s.track.on && decide (s.track.lag ≥ 64) then s.zoom.demand.tdiv 2
    else s.zoom.demand
  if s.power.state = .empty then v1.tdiv 2 else v1

/-- Whether a speed points toward a soft limit that Z has reached: at wide (R46). -/
def atWideLimit (z : Zoom) (pos : Nat) (v : Int) : Bool := decide (v < 0) && decide (pos ≤ z.softMin)

/-- The same at tele (R46). -/
def atTeleLimit (z : Zoom) (pos : Nat) (v : Int) : Bool := decide (v > 0) && decide (pos ≥ z.softMax)

/-- The zoom with an applied speed: duty |v| × 8, direction kept while the speed is 0 (R47). -/
def Zoom.drive (v : Int) (z : Zoom) : Zoom :=
  { z with
    applied := v
    duty := v.natAbs * 8
    dirTele := if v > 0 then true else if v < 0 then false else z.dirTele }

/-- The applied speed is derived from the demand, with the lag inhibit, the limit flags and the
LENS_LIMIT latch of an arrival (R45, R46). While Z is absent it is held at 0 (R38). -/
def deriveApplied (s : State) : State :=
  let z := { s.zoom with lagInhibit := lagInhibitNow s }
  match z.z with
  | none => { s with zoom := z.drive 0 }
  | some pos =>
    let v := speedAfterPower s
    let wide0 := z.wideFlag && !decide (pos > z.softMin)
    let tele0 := z.teleFlag && !decide (pos < z.softMax)
    let hitWide := atWideLimit z pos v
    let hitTele := atTeleLimit z pos v
    let v3 := if hitWide || hitTele then 0 else v
    let v4 := if z.stallCut then 0 else v3
    let z := { z with wideFlag := wide0 || hitWide, teleFlag := tele0 || hitTele }
    latchIf ((hitWide && !wide0) || (hitTele && !tele0)) .lensLimit { s with zoom := z.drive v4 }

/-- The zoom with a holder; a change of holder clears the stall cut (R48). -/
def Zoom.hold (h : Holder) (z : Zoom) : Zoom :=
  { z with holder := h, stallCut := z.stallCut && z.holder == h }

/-- The zoom with a demand; a demand of 0 clears the stall cut (R48). -/
def Zoom.want (v : Int) (z : Zoom) : Zoom :=
  { z with demand := v, stallCut := z.stallCut && v != 0 }

/-- The zoom's claim or request ends: holder NONE, demand 0 (R41, R43, R44, R57). -/
def Zoom.release (z : Zoom) : Zoom := (z.hold .none).want 0

/-- The zoom is let go and the applied speed derived again. -/
def releaseZoom (s : State) : State :=
  deriveApplied { s with zoom := { s.zoom with host := none, recallClaim := none }.release }

/-! ### Results (R43, R44, R52, R56; absent values read 0, log 18) -/

def zoomResult (s : State) : List Byte := field16 (s.zoom.z.getD 0)

def focusResult (s : State) : List Byte := field16 (s.focus.pos.getD 0)

def irisResult (s : State) : List Byte := [byteOf (s.iris.pos.getD 0)]

/-! ### Focus targets and lag (R49, R51, R67) -/

/-- The focus lag now: 0 while the position is undefined (R67). -/
def lagNow (f : Focus) : Nat :=
  match f.pos with
  | none => 0
  | some p => ((f.target : Int) - p).natAbs

/-- The focus target and position are handed to the tracking block: the lag is recomputed, a rise above
256 while tracking is ON latches TRACK_LAG (R67). At a change of the lag, and only then, the lens drive derives
the applied speed again (R45). -/
def updateLag (s : State) : State :=
  let lag := lagNow s.focus
  if lag = s.track.lag then s
  else
    let rise := s.track.on && decide (s.track.lag ≤ 256) && decide (lag > 256)
    deriveApplied (latchIf rise .trackLag { s with track := { s.track with lag := lag } })

/-- The focus follows its target (R51): it takes targets and moves. -/
def FocusState.follows : FocusState → Bool
  | .idle => true | .moving => true
  | .unreferenced => false | .referencing => false | .fault => false

/-- The focus with a target, clamped to the near limit: MOVING where it differs from the position
(R49). -/
def Focus.aim (target : Nat) (f : Focus) : Focus :=
  let t := min target f.near
  if f.state.follows then
    { f with
      target := t
      state := if f.pos = some t then .idle else .moving
      phase := if f.state = .moving then f.phase else 0 }
  else { f with target := t }

/-- A new focus target; the lag follows it (R51, R67). -/
def aimFocus (target : Nat) (s : State) : State := updateLag { s with focus := s.focus.aim target }

/-- D is recomputed by the inverse, with the Z in force, while a tracking table is present (R65, R66). -/
def recomputeD (fv : Nat) (s : State) : State :=
  match s.track.table with
  | none => s
  | some table => { s with track := { s.track with d := inverseD table (s.zoom.z.getD 0) fv } }

/-! ### Ends of host requests -/

/-- The host zoom request in progress, if any, completes; its result is the present Z (R40, R41). -/
def endHostZoom (status : Status) (s : State) : State :=
  match s.zoom.host with
  | none => s
  | some h => complete h.slot status (zoomResult s) { s with zoom := { s.zoom with host := none } }

/-- The host focus request in progress, if any, completes; its result is the position (R52). -/
def endHostFocus (status : Status) (s : State) : State :=
  match s.focus.host with
  | none => s
  | some h => complete h.slot status (focusResult s) { s with focus := { s.focus with host := none } }

/-- The host iris request in progress, if any, completes; its result is the iris position (R56). -/
def endHostIris (status : Status) (s : State) : State :=
  match s.iris.host with
  | none => s
  | some h => complete h.slot status (irisResult s) { s with iris := { s.iris with host := none } }

/-- The focus stops where it stands: target set to the position, holder NONE (R57). -/
def stopFocus (s : State) : State :=
  let s := { s with focus := { s.focus with holder := .none, host := none } }
  match s.focus.pos with
  | none => s
  | some p => aimFocus p s

/-- The iris stops where it stands: target set to the command, holder NONE (R57). -/
def stopIris (s : State) : State :=
  { s with iris := { s.iris with
      holder := .none, host := none, recallTarget := none, target := s.iris.command, settle := 0 } }

/-! ### Conflict record (R42) -/

/-- A host request refused OVERRIDDEN: CONTROL_CONFLICT latches and the conflict record is written. -/
def recordConflict (axis : LensAxis) (kind : Nat) (s : State) : State :=
  latch .controlConflict { s with conflict := some ⟨axis, kind, stampNow s⟩ }

/-! ### Outcomes of pushes and recalls (R70 to R74, R169) -/

/-- The depth of the stack (R69). -/
def Shots.depth (h : Shots) : Nat := h.banks.length + h.spill

/-- The result bytes of an entry (R72). -/
def shotBytes (e : Shot) : List Byte :=
  field16 e.z ++ field16 e.focus ++ field16 e.d ++ [byteOf e.iris, byteOf (bit e.tracking)]

/-- A cue's action answers: yes sets the action-taken flag, no leaves it as it is (R169). -/
def cueAnswer (channel : Fin 4) (taken : Bool) (s : State) : State :=
  if taken then { s with cues := modify s.cues channel fun c => { c with taken := true } } else s

/-- The outcome of a push or recall goes to its source: a request completes, a cue is answered, and a
press is told nothing (R74, R169). -/
def shotOutcome (source : ShotSource) (status : Status) (result : List Byte) (s : State) : State :=
  match source with
  | .request slot => complete slot status result s
  | .cue channel => cueAnswer channel (status == .ok || status == .okAdjusted) s
  | .press => s

/-- The claims of a recall that are still held are withdrawn, and each axis stops (R57, R73). -/
def withdrawClaims (s : State) : State :=
  let s := if s.zoom.holder = .recall then releaseZoom s else s
  let s := if s.focus.holder = .recall then stopFocus s else s
  if s.iris.holder = .recall then stopIris s else s

/-- A recall whose moves have begun ends with its entry kept: preempted, stalled or stopped (R73). -/
def abortRecall (status : Status) (s : State) : State :=
  match s.shots.op with
  | some (.moving r) =>
    let s := withdrawClaims { s with shots := { s.shots with op := none } }
    shotOutcome r.source status (byteOf s.shots.depth :: shotBytes r.entry) s
  | _ => s

/-- The top entry leaves the stack: a spill entry if there is one, otherwise the newest bank (R73). -/
def Shots.drop (h : Shots) : Shots :=
  if h.spill > 0 then { h with spill := h.spill - 1 } else { h with banks := h.banks.dropLast }

/-- A recall settled on all three axes: the entry leaves the stack, its D and tracking flag are put in
force, the last tracked Z becomes absent, and the lens drive is told (R73). -/
def finishRecall (r : Recall) (s : State) : State :=
  let s := { s with
    shots := { s.shots.drop with op := none }
    track := { s.track with
      d := r.entry.d
      on := r.entry.tracking && s.track.table.isSome
      lastZ := none } }
  let s := deriveApplied s
  shotOutcome r.source (okStatus r.adjusted) (byteOf s.shots.depth :: shotBytes r.entry) s

/-- A recall with one more axis settled. -/
def Recall.settle (axis : LensAxis) (r : Recall) : Recall :=
  match axis with
  | .zoom => { r with zoomDone := true }
  | .focus => { r with focusDone := true }
  | .iris => { r with irisDone := true }

/-- The lens drive reports an axis of the recall settled; the recall ends when all three are (R73). -/
def recallSettled (axis : LensAxis) (s : State) : State :=
  match s.shots.op with
  | some (.moving r) =>
    let r := r.settle axis
    if r.zoomDone && r.focusDone && r.irisDone then finishRecall r s
    else { s with shots := { s.shots with op := some (.moving r) } }
  | _ => s

/-! ### The zoom profile (R39, R43) -/

/-- The speed of a move: sign(d) × min(maximum speed, 4 + |d| div 16) (R43). -/
def profileSpeed (maxSpeed : Nat) (d : Int) : Int := signOf d * (min maxSpeed (4 + d.natAbs / 16) : Nat)

/-- The demand is evaluated again for the holder in force, with the settling of a move or of a recall's
zoom part, and the applied speed derived from it (R39, R43). -/
def evalZoom (s : State) : State :=
  match s.zoom.holder with
  | .none => deriveApplied { s with zoom := s.zoom.want 0 }
  | .operator => deriveApplied { s with zoom := s.zoom.want s.zoom.rocker }
  | .recall =>
    match s.zoom.recallClaim, s.zoom.z with
    | some c, some z =>
      let d : Int := (c.target : Int) - z
      if d.natAbs ≤ 4 then recallSettled .zoom (releaseZoom s)
      else deriveApplied { s with zoom := s.zoom.want (profileSpeed c.maxSpeed d) }
    | _, _ => deriveApplied { s with zoom := s.zoom.want 0 }
  | .host =>
    match s.zoom.host, s.zoom.z with
    | some h, z? =>
      match h.order, z? with
      | .speed v _, _ => deriveApplied { s with zoom := s.zoom.want v }
      | .move _ _, none => deriveApplied { s with zoom := s.zoom.want 0 }
      | .move target maxSpeed, some z =>
        let d : Int := (target : Int) - z
        if d.natAbs ≤ 4 then releaseZoom (endHostZoom (okStatus h.adjusted) s)
        else deriveApplied { s with zoom := s.zoom.want (profileSpeed maxSpeed d) }
    | none, _ => deriveApplied { s with zoom := s.zoom.want 0 }

/-- The targets of a move or a recall move are clamped again to the soft limits (R43, R62, log 26). -/
def reclampZoom (s : State) : State :=
  let z := s.zoom
  let host := z.host.map fun h =>
    match h.order with
    | .move target maxSpeed =>
      let t := clampNat z.softMin z.softMax target
      { h with order := .move t maxSpeed, adjusted := h.adjusted || t != target }
    | .speed _ _ => h
  let recallClaim := z.recallClaim.map fun c => { c with target := clampNat z.softMin z.softMax c.target }
  let moved := recallClaim != z.recallClaim
  let op := match s.shots.op with
    | some (.moving r) => some (.moving { r with adjusted := r.adjusted || moved })
    | op => op
  { s with zoom := { z with host := host, recallClaim := recallClaim }, shots := { s.shots with op := op } }

/-! ### Arrival of the focus (R51, R52) -/

/-- The position has reached the target: a FOCUS_MOVE completes and reports the final position to the
tracking block, or the focus part of a recall has settled; the holder becomes NONE (R51, R52, R66). -/
def focusArrived (s : State) : State :=
  if s.focus.pos = some s.focus.target then
    match s.focus.holder with
    | .host =>
      let status := okStatus ((s.focus.host.map HostFocus.adjusted).getD false)
      let s := recomputeD s.focus.target (endHostFocus status s)
      { s with focus := { s.focus with holder := .none } }
    | .recall => recallSettled .focus { s with focus := { s.focus with holder := .none } }
    | .none => s
    | .operator => s
    | .tracking => s
  else s

/-! ### Settling and stalling of the iris (R56) -/

/-- The iris has settled: |position − target| ≤ 1 (R56). -/
def Iris.settled (i : Iris) : Bool :=
  match i.pos, i.target with
  | some p, some t => decide (((p : Int) - t).natAbs ≤ 1)
  | _, _ => false

/-- The iris is held by an IRIS_SET or a recall claim. -/
def Iris.claimed (i : Iris) : Bool := i.holder == .host || i.holder == .recall

/-- The iris with a new claim's holder: the settle count runs on from the claim before it, and stands at 0 where
none held the iris (R56). -/
def Iris.claim (h : Holder) (i : Iris) : Iris :=
  { i with holder := h, settle := if i.claimed then i.settle else 0 }

/-- The settle test: an IRIS_SET completes, or the recall's iris part has settled (R56). -/
def irisSettleTest (s : State) : State :=
  if s.iris.claimed && s.iris.settled then
    let wasRecall := s.iris.holder == .recall
    let status := okStatus ((s.iris.host.map HostIris.adjusted).getD false)
    let s := endHostIris status s
    let s := { s with iris := { s.iris with holder := .none, settle := 0 } }
    if wasRecall then recallSettled .iris s else s
  else s

/-- The iris move has stalled (R56). -/
def irisStalled (s : State) : State :=
  let wasRecall := s.iris.holder == .recall
  let s := endHostIris .stalled s
  let s := latch .lensFault { s with iris := { s.iris with holder := .none, settle := 0 } }
  if wasRecall then abortRecall .stalled s else s

end Sys2Proof.Machine
end

