-- ==== Sys2Proof/Machine/Lens.lean ====
section
/-! DEFINITION. The lens drive (Chapter 3): host requests on the three axes, the operator's takes and
holds, the stall monitor, the referencing, the iris ramp and LENS_STOP. -/

namespace Sys2Proof.Machine

/-! ### Zoom requests (R41, R43, R44) -/

/-- A host zoom request is taken (R41). -/
def takeHostZoom (slot : Fin 32) (kind : Nat) (order : ZoomOrder) (adjusted : Bool) (s : State) : State :=
  match s.zoom.holder with
  | .operator => complete slot .overridden (zoomResult s) (recordConflict .zoom kind s)
  | .recall => complete slot .busy (zoomResult s) s
  | .host | .none =>
    let s := keepRunning slot (endHostZoom .preempted s)
    evalZoom { s with zoom :=
      { s.zoom.hold .host with host := some ⟨slot, order, adjusted⟩, stallCut := false } }

/-- ZOOM_MOVE is taken (R43). -/
def zoomMoveTaken (slot : Fin 32) (target : BitVec 16) (maxSpeed : Byte) (s : State) : State :=
  let t := clampNat s.zoom.softMin s.zoom.softMax target.toNat
  let v := clampNat 1 127 maxSpeed.toNat
  takeHostZoom slot 0x10 (.move t v) (t != target.toNat || v != maxSpeed.toNat) s

/-- ZOOM_SPEED is taken (R44). -/
def zoomSpeedTaken (slot : Fin 32) (speed : Byte) (duration : BitVec 16) (s : State) : State :=
  let v := clampInt (-127) 127 speed.toInt
  let ms := clampNat 1 10000 duration.toNat
  takeHostZoom slot 0x11 (.speed v (ms * ticksPerMs)) (v != speed.toInt || ms != duration.toNat) s

/-- A ZOOM_SPEED duration expires (R44). -/
def zoomSpeedExpired (s : State) : State :=
  match s.zoom.host with
  | some ⟨_, .speed _ _, adjusted⟩ => releaseZoom (endHostZoom (okStatus adjusted) s)
  | _ => s

/-- ZOOM_MOVE (R43). -/
def execZoomMove (slot : Fin 32) (target : BitVec 16) (maxSpeed : Byte) (s : State) :
    Host.Outcome State Fault Refusal :=
  .next (serve slot (.zoomMove slot target maxSpeed) (zoomMoveTaken slot target maxSpeed) s)

/-- ZOOM_SPEED (R44). -/
def execZoomSpeed (slot : Fin 32) (speed : Byte) (duration : BitVec 16) (s : State) :
    Host.Outcome State Fault Refusal :=
  .next (serve slot (.zoomSpeed slot speed duration) (zoomSpeedTaken slot speed duration) s)

/-- ZOOM_SPEED_EXPIRY (R44). -/
def execZoomSpeedExpiry (s : State) : Host.Outcome State Fault Refusal := .next (zoomSpeedExpired s)

/-! ### The stall monitor (R48) -/

/-- The zoom stalls (R48). -/
def zoomStalled (s : State) : State :=
  let s := latch .lensFault (deriveApplied { s with zoom := { s.zoom with stallCut := true, stall := none } })
  match s.zoom.holder with
  | .host => releaseZoom (endHostZoom .stalled s)
  | .recall => abortRecall .stalled (releaseZoom s)
  | .operator => s
  | .none => s

/-- The stall window as the scan frame start finds it, when its count goes up: the count after it. -/
def stallCount (z : Zoom) : Option Nat :=
  match z.z, z.stall with
  | some pos, some w =>
    if z.applied.natAbs < 16 then none
    else if ((pos : Int) - w.reference).natAbs ≥ 2 then none
    else some (w.count + 1)
  | _, _ => none

/-- The next scan frame start finds a stall (R48). -/
def zoomStallDue (s : State) : Bool :=
  match stallCount s.zoom with
  | some n => decide (n ≥ 200)
  | none => false

/-- The stall window after a scan frame start that finds no stall (R48). -/
def stallWindowNext (z : Zoom) : Option StallWindow :=
  match z.z with
  | none => none
  | some pos =>
    if z.applied.natAbs < 16 then none
    else
      match z.stall, stallCount z with
      | some w, some n => some ⟨w.reference, n⟩
      | _, _ => some ⟨pos, 0⟩

/-- The stall monitor takes a scan frame start (R48). -/
def stallScan (s : State) : State :=
  if zoomStallDue s then zoomStalled s
  else { s with zoom := { s.zoom with stall := stallWindowNext s.zoom } }

/-! ### The operator's zoom (R40) -/

/-- The operator controls deliver a rocker value (R40). -/
def rockerTaken (v : Int) (s : State) : State :=
  if v ≠ 0 then
    let wasRecall := s.zoom.holder == .recall
    let s := endHostZoom .preempted s
    let s := evalZoom { s with zoom := { s.zoom.hold .operator with rocker := v, recallClaim := none } }
    if wasRecall then abortRecall .preempted s else s
  else if s.zoom.holder = .operator then evalZoom { s with zoom := { s.zoom with rocker := 0 } }
  else s

/-- The zoom hold has ended, or the viewfinder has become ABSENT (R40). -/
def zoomHoldEnded (s : State) : State :=
  if s.zoom.holder = .operator then evalZoom { s with zoom := { s.zoom.hold .none with rocker := 0 } }
  else { s with zoom := { s.zoom with rocker := 0 } }

/-! ### Focus (R50 to R53) -/

/-- A FOCUS_MOVE that takes the focus (R52). -/
def focusMoveStarts (slot : Fin 32) (target rate : Nat) (adjusted : Bool) (s : State) : State :=
  let s := keepRunning slot (endHostFocus .preempted s)
  let s := { s with focus :=
    { s.focus with holder := .host, host := some ⟨slot, target, rate, adjusted⟩, rate := rate } }
  focusArrived (aimFocus target s)

/-- FOCUS_MOVE is taken (R52). -/
def focusMoveTaken (slot : Fin 32) (target : BitVec 16) (rate : Byte) (s : State) : State :=
  let t := min target.toNat s.focus.near
  let r := if rate = 0 then 4 else min rate.toNat 16
  let adjusted := decide (target.toNat > s.focus.near) || decide (rate.toNat ≥ 17)
  match s.focus.state with
  | .unreferenced | .referencing => complete slot .busy (focusResult s) s
  | .fault => complete slot .stalled (focusResult s) s
  | .idle | .moving =>
    match s.focus.holder with
    | .operator => complete slot .overridden (focusResult s) (recordConflict .focus 0x12 s)
    | .recall => complete slot .busy (focusResult s) s
    | .host | .none | .tracking => focusMoveStarts slot t r adjusted s

/-- FOCUS_MOVE (R52). -/
def execFocusMove (slot : Fin 32) (target : BitVec 16) (rate : Byte) (s : State) :
    Host.Outcome State Fault Refusal :=
  .next (serve slot (.focusMove slot target rate) (focusMoveTaken slot target rate) s)

/-- A focus delta is delivered (R53). -/
def focusDeltaTaken (delta : Int) (s : State) : State :=
  if s.focus.state.follows then
    let wasRecall := s.focus.holder == .recall
    let t := (clampInt 0 s.focus.near ((s.focus.target : Int) + delta)).toNat
    let s := endHostFocus .preempted s
    let s := aimFocus t { s with focus := { s.focus with holder := .operator, rate := 16 } }
    let s := if wasRecall then abortRecall .preempted s else s
    recomputeD t s
  else s

/-- The focus hold has ended (R53). -/
def focusHoldEnded (s : State) : State :=
  if s.focus.holder = .operator then { s with focus := { s.focus with holder := .none } } else s

/-- Home is found: position and target 0, count 0, IDLE (R50); the lag follows (R67). -/
def atHome (s : State) : State :=
  updateLag { s with focus :=
    { s.focus with state := .idle, pos := some 0, target := 0, refSteps := 0, phase := 0 } }

/-- The initial level report of FOCUS_HOME (R50). -/
def focusHomeReport (asserted : Bool) (s : State) : State :=
  if s.focus.state = .unreferenced then
    if asserted then atHome s
    else { s with focus := { s.focus with state := .referencing, phase := 0 } }
  else s

/-- A FOCUS_HOME RISE is delivered; in REFERENCING the tracking block is told (R50, R66). -/
def focusHomeRise (s : State) : State :=
  if s.focus.state = .referencing then recomputeD 0 (atHome s) else s

/-- The next step in REFERENCING is the 8,704th (R50). -/
def referencingFaultDue (s : State) : Bool :=
  s.focus.state == .referencing && decide (s.focus.refSteps + 1 ≥ 8704)

/-- One step on the step output, in a direction (R59, log 57). -/
def Focus.stepTo (near : Bool) (f : Focus) : Focus := { f with stepsOut := f.stepsOut + 1, stepNear := near }

/-- A step toward home in REFERENCING (R50): the direction is toward 0. -/
def referencingStep (s : State) : State :=
  if s.focus.refSteps + 1 ≥ 8704 then
    latch .lensFault { s with focus :=
      { s.focus.stepTo false with state := .fault, refSteps := 8704, phase := 0 } }
  else { s with focus := { s.focus.stepTo false with
    refSteps := s.focus.refSteps + 1, phase := s.focus.phase - ticksPerMs } }

/-- The position one step toward the target (R51). -/
def stepToward (p target : Nat) : Nat := if p < target then p + 1 else if p > target then p - 1 else p

/-- The position after a step in MOVING, with IDLE at the target, and the step on the outputs (R51, R59). -/
def Focus.step (p : Nat) (f : Focus) : Focus :=
  let q := stepToward p f.target
  { (if q = p then f else f.stepTo (decide (p < f.target))) with
    pos := some q
    state := if q = f.target then .idle else .moving
    phase := if q = f.target then 0 else f.phase - ticksPerMs }

/-! ### Iris (R54 to R56) -/

/-- The iris with a new target; the settle count returns to 0 when it changes (R56). Before the first
position the target waits with its holder (R54). -/
def Iris.aim (t : Nat) (i : Iris) : Iris :=
  match i.target with
  | some old => { i with target := some t, settle := if old = t then i.settle else 0 }
  | none => i

/-- IRIS_SET is taken (R56). -/
def irisSetTaken (slot : Fin 32) (target : BitVec 16) (s : State) : State :=
  let t := min target.toNat 255
  match s.iris.holder with
  | .operator => complete slot .overridden (irisResult s) (recordConflict .iris 0x13 s)
  | .recall => complete slot .busy (irisResult s) s
  | .host | .none =>
    let s := keepRunning slot (endHostIris .preempted s)
    { s with iris := ({ s.iris.claim .host with host := some ⟨slot, t, t != target.toNat⟩ }).aim t }

/-- IRIS_SET (R56). -/
def execIrisSet (slot : Fin 32) (target : BitVec 16) (s : State) : Host.Outcome State Fault Refusal :=
  .next (serve slot (.irisSet slot target) (irisSetTaken slot target) s)

/-- The iris takes a delta: added to the target in force, or kept for the first position (R54, R56). -/
def Iris.nudge (delta : Int) (i : Iris) : Iris :=
  match i.target with
  | some t => { i with target := some (clampInt 0 255 ((t : Int) + delta)).toNat, settle := 0 }
  | none => { i with early := i.early ++ [delta] }

/-- An iris delta is delivered (R56). -/
def irisDeltaTaken (delta : Int) (s : State) : State :=
  let wasRecall := s.iris.holder == .recall
  let s := endHostIris .preempted s
  let s := { s with iris := ({ s.iris with
    holder := .operator, recallTarget := none, settle := 0 }).nudge delta }
  if wasRecall then abortRecall .preempted s else s

/-- The iris hold has ended (R56). -/
def irisHoldEnded (s : State) : State :=
  if s.iris.holder = .operator then { s with iris := { s.iris with holder := .none } } else s

/-- The command one ramp step nearer the target (R55). -/
def rampTo (step command target : Nat) : Nat :=
  if command < target then command + min step (target - command)
  else command - min step (command - target)

/-- The ramp step of a frame start (R55). -/
def irisStep (r : RecState) : Nat :=
  match r with
  | .recording => 2 | .stopping => 2
  | .standby => 16 | .prerec => 16 | .arming => 16 | .halted => 16

/-- The iris command ramps toward the target (R55). -/
def irisRamp (s : State) : State :=
  match s.iris.command, s.iris.target with
  | some c, some t =>
    { s with iris := { s.iris with command := some (rampTo (irisStep s.recorder.state) c t) } }
  | _, _ => s

/-- The settle count goes up at this frame start, after the ramp and the settle test (R56). -/
def irisCounts (i : Iris) : Bool := i.claimed && i.target.isSome && i.command == i.target && !i.settled

/-- The frame start finds an iris stall (R56). -/
def irisStallDue (s : State) : Bool :=
  let s := irisSettleTest (irisRamp s)
  irisCounts s.iris && decide (s.iris.settle + 1 ≥ 50)

/-- The lens drive takes the frame-start notice: ramp, settle test, settle count (R55, R56). -/
def lensFrame (s : State) : State :=
  let s := irisSettleTest (irisRamp s)
  if irisCounts s.iris then
    if s.iris.settle + 1 ≥ 50 then irisStalled s
    else { s with iris := { s.iris with settle := s.iris.settle + 1 } }
  else s

/-- The first iris position: command and target take its value, then the deltas taken before it, then
the waiting target of an IRIS_SET or a recall (R54, log 32). -/
def Iris.firstPosition (p : Nat) (i : Iris) : Iris :=
  let nudged : Nat := i.early.foldl (fun (t : Nat) delta => (clampInt 0 255 ((t : Int) + delta)).toNat) p
  let t := match i.host, i.recallTarget with
    | some h, _ => h.target
    | none, some r => r
    | none, none => nudged
  { i with pos := some p, command := some p, target := some t, early := [], recallTarget := none }

/-- A completed conversion of channel 3 (R54, R56). -/
def irisSample (code : Nat) (s : State) : State :=
  let p := code / 16
  let i := match s.iris.target with
    | some _ => { s.iris with pos := some p }
    | none => s.iris.firstPosition p
  irisSettleTest { s with iris := i }

/-! ### LENS_STOP and the cancellation of one axis (R57, R58) -/

/-- The zoom's host request ends and the axis stops (R57, R58). -/
def stopHostZoom (status : Status) (s : State) : State :=
  if s.zoom.host.isSome then releaseZoom (endHostZoom status s) else s

/-- The focus's host request ends and the axis stops (R57, R58). -/
def stopHostFocus (status : Status) (s : State) : State :=
  if s.focus.host.isSome then stopFocus (endHostFocus status s) else s

/-- The iris's host request ends and the axis stops (R57, R58). -/
def stopHostIris (status : Status) (s : State) : State :=
  if s.iris.host.isSome then stopIris (endHostIris status s) else s

/-- 1 for a recall request whose moves have begun, which LENS_STOP ends (R57, R74). -/
def recallRequests (h : Shots) : Nat :=
  match h.op with
  | some (.moving r) => (match r.source with | .request _ => 1 | .press => 0 | .cue _ => 0)
  | some (.push _) => 0
  | some (.reading _) => 0
  | none => 0

/-- LENS_STOP is taken (R57). -/
def lensStopTaken (slot : Fin 32) (s : State) : State :=
  let n := bit s.zoom.host.isSome + bit s.focus.host.isSome + bit s.iris.host.isSome + recallRequests s.shots
  let s := stopHostIris .cancelled (stopHostFocus .cancelled (stopHostZoom .cancelled s))
  complete slot .ok [byteOf n] (abortRecall .cancelled s)

/-- LENS_STOP (R57). -/
def execLensStop (slot : Fin 32) (s : State) : Host.Outcome State Fault Refusal :=
  .next (serve slot (.lensStop slot) (lensStopTaken slot) s)

/-! ### Tracking (R61, R62, R63, R66, R68) -/

/-- A tracking target is offered to the lens drive (R51, R66, log 19). -/
def offerTracking (target : Nat) (s : State) : State :=
  let suspended := match s.shots.op with
    | some (.moving _) => true
    | _ => false
  let free := s.focus.holder == .none || s.focus.holder == .tracking
  if free && s.focus.state.follows && !suspended then
    aimFocus target { s with focus := { s.focus with holder := .tracking, rate := 16 } }
  else s

/-- The tracking block takes a new Z: focal length, then the offer of a target (R63, R66). -/
def trackZ (z : Nat) (s : State) : State :=
  let f := focalLengthAt s.track.focal z
  let s := { s with track := { s.track with focalLength := f }, stab := { s.stab with focal := f } }
  if s.track.on && s.track.lastZ != some z then
    let s := match s.track.table with
      | some table => offerTracking (trackingTarget table z s.track.d) s
      | none => s
    { s with track := { s.track with lastZ := some z } }
  else s

/-- SET_TRACKING is taken (R68). -/
def setTrackingTaken (slot : Fin 32) (enable : Byte) (s : State) : State :=
  let answer (status : Status) (s : State) := complete slot status (field16 s.track.d) s
  if enable.toNat > 1 then answer .badValue s
  else if enable = 1 then
    if s.track.table.isNone then answer .noTable s
    else if s.track.on then answer .ok s
    else
      let s := recomputeD (s.focus.pos.getD 0) { s with track := { s.track with on := true, lastZ := none } }
      answer .ok (deriveApplied s)
  else if s.track.on then
    let holder := if s.focus.holder = .tracking then .none else s.focus.holder
    answer .ok (deriveApplied
      { s with track := { s.track with on := false }, focus := { s.focus with holder := holder } })
  else answer .ok s

/-- SET_TRACKING (R68). -/
def execSetTracking (slot : Fin 32) (enable : Byte) (s : State) : Host.Outcome State Fault Refusal :=
  .next (serve slot (.setTracking slot enable) (setTrackingTaken slot enable) s)

/-- LOAD_LENS_TABLES is taken (R61); BAD_VALUE is tested before BUSY (log 45). -/
def loadLensTablesTaken (slot : Fin 32) (address : BitVec 32) (s : State) : State :=
  if address.toNat % 4 ≠ 0 then completeFree slot .badValue s
  else if s.track.load.isSome then completeFree slot .busy s
  else keepRunning slot { s with track := { s.track with load := some slot } }

/-- LOAD_LENS_TABLES (R61). -/
def execLoadLensTables (slot : Fin 32) (address : BitVec 32) (s : State) :
    Host.Outcome State Fault Refusal :=
  .next (serve slot (.loadLensTables slot address) (loadLensTablesTaken slot address) s)

/-- A focus target above the new near limit is clamped to it at once (R62). A position that already stands there has
reached the target: a FOCUS_MOVE completes, or the focus part of a recall has settled, within this step (log 61). -/
def clampFocusTarget (s : State) : State :=
  if s.focus.target > s.focus.near then
    let host := s.focus.host.map fun h => { h with target := min h.target s.focus.near, adjusted := true }
    focusArrived (aimFocus s.focus.near { s with focus := { s.focus with host := host } })
  else s

/-- The focal length with a focal table: F[0] while Z is absent (R63); otherwise it stays as it is until the next
zoom conversion (R62). -/
def focalLengthAfterLoad (focal : List Nat) (s : State) : Nat :=
  match s.zoom.z with
  | some _ => s.track.focalLength
  | none => focal.getD 0 0

/-- A lens table block that has passed its checks replaces all the values (R62). The stabiliser is handed no focal
length by a load: it takes one at each new Z (R63, R77, log 47). -/
def takeLensBlock (b : LensBlock) (s : State) : State :=
  clampFocusTarget { s with
    track := { s.track with
      focal := b.focal, table := some b.table, focalLength := focalLengthAfterLoad b.focal s }
    zoom := { s.zoom with wide := b.wide, tele := b.tele, softMin := b.softMin, softMax := b.softMax }
    focus := { s.focus with near := b.near } }

/-- The lens table read ends (R61, R62). A FOCUS_MOVE or a recall that the new near limit ends at once hands over its
completion first, and the LOAD_LENS_TABLES after it: the spec does not order the two (DESIGN CHOICE, log 60). -/
def lensTableRead (read : ReadEnd) (s : State) : State :=
  match s.track.load with
  | none => s
  | some slot =>
    let s := { s with track := { s.track with load := none } }
    match read with
    | .error => complete slot .malformed [0] (latch .workAreaFault s)
    | .data bytes =>
      let b := LensBlock.ofBytes bytes
      if b.firstFailure = 0 then complete slot .ok [0] (takeLensBlock b s)
      else complete slot .tableInvalid [byteOf b.firstFailure] s

/-- LENS_TABLE_READ_END (R62). -/
def execLensTableReadEnd (read : ReadEnd) (s : State) : Host.Outcome State Fault Refusal :=
  .next (lensTableRead read s)

end Sys2Proof.Machine
end

