-- ==== Sys2Proof/Machine/Shots.lean ====
section
/-! DEFINITION. The shot stack (R69 to R75): pushes, recalls, spill transfers and the SHOT press. -/

namespace Sys2Proof.Machine

/-! ### Spill entries (R71, section 11.6) -/

/-- The address of spill entry `i` under the base in force (R69). -/
def spillAddress (s : State) (i : Nat) : Nat := s.unit.workBase.toNat + 0x4000 + 32 * i

/-- The 32 bytes of a spill entry (section 11.6). -/
def spillBytes (e : Shot) : List Byte := shotBytes e ++ List.replicate 24 0

/-- An entry read from memory with its fields clamped to their ranges (R71). -/
def spillEntry (bytes : List Byte) : Shot where
  z := min (fieldAt bytes 0 2) 4095
  focus := min (fieldAt bytes 2 2) 8191
  d := min (fieldAt bytes 4 2) 2048
  iris := fieldAt bytes 6 1
  tracking := fieldAt bytes 7 1 != 0

/-- Whether a field of an entry read was clamped (R71); a tracking flag of 2 to 255, taken as ON, is no clamp
(log 48). -/
def spillClamped (bytes : List Byte) : Bool :=
  decide (fieldAt bytes 0 2 > 4095) || decide (fieldAt bytes 2 2 > 8191) || decide (fieldAt bytes 4 2 > 2048)

/-- The request of a source is kept running; other sources have no slot. -/
def keepSource (source : ShotSource) (s : State) : State :=
  match source with
  | .request slot => keepRunning slot s
  | .press => s
  | .cue _ => s

/-! ### Push (R70) -/

/-- The entry a push captures, where the lens setting is complete (R70). -/
def captureShot (s : State) : Option Shot :=
  match s.zoom.z, s.iris.pos with
  | some z, some i =>
    if s.focus.state.follows then
      some ⟨z, s.focus.pos.getD 0, s.track.d, i, s.track.on⟩
    else none
  | _, _ => none

/-- A push is taken (R70). -/
def pushTaken (source : ShotSource) (s : State) : State :=
  let answer (status : Status) (s : State) := shotOutcome source status [byteOf s.shots.depth] s
  if s.shots.op.isSome then answer .busy s
  else
    match captureShot s with
    | none => answer .busy s
    | some entry =>
      if s.shots.depth ≥ 32 then answer .stackFull (latch .shotStack s)
      else if s.shots.banks.length < 8 then
        answer .ok { s with shots := { s.shots with banks := s.shots.banks ++ [entry] } }
      else if s.shots.refuse then answer .stackFull (latch .shotStack s)
      else
        let transfer : SpillTransfer := ⟨spillAddress s s.shots.spill, some entry, true⟩
        keepSource source { s with shots := { s.shots with
          op := some (.push source), transfers := s.shots.transfers ++ [transfer] } }

/-- SHOT_PUSH (R70). -/
def execShotPush (slot : Fin 32) (s : State) : Host.Outcome State Fault Refusal :=
  .next (serve slot (.shotPush slot) (pushTaken (.request slot)) s)

/-! ### Recall (R72) -/

/-- A recall whose moves are in flight. -/
def Shots.isMoving (h : Shots) : Bool :=
  match h.op with
  | some (.moving _) => true
  | _ => false

/-- The zoom claim of a recall: refused to an operator who holds the zoom, otherwise taken (R41, R72). -/
def claimZoom (entry : Shot) (s : State) : State :=
  if s.zoom.holder = .operator then abortRecall .preempted s
  else
    let s := endHostZoom .preempted s
    let target := clampNat s.zoom.softMin s.zoom.softMax entry.z
    evalZoom { s with zoom := { s.zoom.hold .recall with recallClaim := some ⟨target, 64⟩ } }

/-- The focus claim of a recall (R49, R51, R72). -/
def claimFocus (entry : Shot) (s : State) : State :=
  if s.shots.isMoving then
    if !s.focus.state.follows then recallSettled .focus s
    else if s.focus.holder = .operator then abortRecall .preempted s
    else
      let s := endHostFocus .preempted s
      let s := { s with focus := { s.focus with holder := .recall, rate := 16 } }
      focusArrived (aimFocus entry.focus s)
  else s

/-- The iris claim of a recall (R56, R72). -/
def claimIris (entry : Shot) (s : State) : State :=
  if s.shots.isMoving then
    if s.iris.holder = .operator then abortRecall .preempted s
    else
      let s := endHostIris .preempted s
      let i := s.iris.claim .recall
      { s with iris := match i.target with
          | some _ => i.aim entry.iris
          | none => { i with recallTarget := some entry.iris } }
  else s

/-- The moves of a recall begin: one claim per axis, zoom, focus, iris; a refused claim preempts the
recall and the claims after it are not handed over (R72). -/
def beginMoves (source : ShotSource) (entry : Shot) (adjusted : Bool) (s : State) : State :=
  let clamped := clampNat s.zoom.softMin s.zoom.softMax entry.z != entry.z
  let s := { s with shots := { s.shots with
    op := some (.moving ⟨source, entry, adjusted || clamped, false, false, false⟩) } }
  claimIris entry (claimFocus entry (claimZoom entry s))

/-- The entry fields of a recall that has no entry (R72). -/
def noEntry : Shot := ⟨0, 0, 0, 0, false⟩

/-- A recall is taken (R72). -/
def recallTaken (source : ShotSource) (s : State) : State :=
  let answer (status : Status) (s : State) :=
    shotOutcome source status (byteOf s.shots.depth :: shotBytes noEntry) s
  if s.shots.op.isSome then answer .busy s
  else if s.shots.spill > 0 then
    let transfer : SpillTransfer := ⟨spillAddress s (s.shots.spill - 1), none, true⟩
    keepSource source { s with shots := { s.shots with
      op := some (.reading source), transfers := s.shots.transfers ++ [transfer] } }
  else
    match s.shots.banks.getLast? with
    | none => answer .stackEmpty (latch .shotStack s)
    | some entry => beginMoves source entry false (keepSource source s)

/-- SHOT_RECALL (R72). -/
def execShotRecall (slot : Fin 32) (s : State) : Host.Outcome State Fault Refusal :=
  .next (serve slot (.shotRecall slot) (recallTaken (.request slot)) s)

/-! ### Ends of spill transfers (R71) -/

/-- The transfer that an end of one direction ends, and the others. A transfer that its operation no longer observes
may still be on the bus when a newer one of its direction begins (R69, R73), and the spec does not say which of the two
ends first: the model ends the older (DESIGN CHOICE, log 58). -/
def takeTransfer (write : Bool) : List SpillTransfer → Option (SpillTransfer × List SpillTransfer)
  | [] => none
  | t :: rest =>
    if t.entry.isSome = write then some (t, rest)
    else (takeTransfer write rest).map fun p => (p.1, t :: p.2)

/-- The spill write of a push ends (R71). -/
def pushWritten (ok : Bool) (s : State) : State :=
  match s.shots.op with
  | some (.push source) =>
    let s := { s with shots := { s.shots with op := none } }
    if ok then
      let s := { s with shots := { s.shots with spill := s.shots.spill + 1 } }
      shotOutcome source .ok [byteOf s.shots.depth] s
    else shotOutcome source .malformed [byteOf s.shots.depth] (latch .workAreaFault s)
  | _ => s

/-- A spill write ends: its bytes reach memory, and the push that is in flight takes its outcome (R71). -/
def spillWritten (writes : BusEnd) (s : State) : State :=
  match takeTransfer true s.shots.transfers with
  | some (⟨address, some entry, live⟩, rest) =>
    let s := { s with
      mem := memWriteAll s.mem (BusEnd.made writes 1 (cellsFrom address (spillBytes entry)))
      shots := { s.shots with transfers := rest } }
    if live then pushWritten (writes == .ok) s else s
  | _ => s

/-- SPILL_WRITE_END (R71). -/
def execSpillWriteEnd (writes : BusEnd) (s : State) : Host.Outcome State Fault Refusal :=
  .next (spillWritten writes s)

/-- The result of a recall that ended before its entry was read: the depth, and entry fields the spec does
not state (log 16). -/
def unreadResult (s : State) : List Byte := byteOf s.shots.depth :: freeBytes 8 s

/-- The spill read of a recall ends (R71). -/
def recallRead (read : ReadEnd) (s : State) : State :=
  match s.shots.op with
  | some (.reading source) =>
    match read with
    | .data bytes => beginMoves source (spillEntry bytes) (spillClamped bytes) s
    | .error =>
      let s := latch .workAreaFault { s with shots := { s.shots with op := none } }
      useFree 8 (shotOutcome source .malformed (unreadResult s) s)
  | _ => s

/-- The read of a cancelled recall ends: its data is discarded, and a bus error latches WORK_AREA_FAULT as in any
spill transfer (R73, R76, R171). -/
def discardRead (read : ReadEnd) (s : State) : State :=
  match read with
  | .data _ => s
  | .error => latch .workAreaFault s

/-- A spill read ends; the data of a read whose recall was cancelled is discarded (R71, R73). -/
def spillRead (read : ReadEnd) (s : State) : State :=
  match takeTransfer false s.shots.transfers with
  | some (t, rest) =>
    let s := { s with shots := { s.shots with transfers := rest } }
    if t.live then recallRead read s else discardRead read s
  | none => s

/-- SPILL_READ_END (R71). -/
def execSpillReadEnd (read : ReadEnd) (s : State) : Host.Outcome State Fault Refusal :=
  .next (spillRead read s)

/-- The transfers on the bus are let finish without an observer (R69, R73). -/
def Shots.orphan (h : Shots) : List SpillTransfer := h.transfers.map fun t => { t with live := false }

/-- A SHOT_RECALL is cancelled: in its spill read at once, in its moves as LENS_STOP stops it (R73). -/
def cancelRecall (s : State) : State :=
  match s.shots.op with
  | some (.reading source) =>
    let s := { s with shots := { s.shots with
      op := none
      transfers := s.shots.transfers.map fun t => if t.entry.isNone then { t with live := false } else t } }
    useFree 8 (shotOutcome source .cancelled (unreadResult s) s)
  | some (.moving _) => abortRecall .cancelled s
  | some (.push _) => s
  | none => s

/-! ### The SHOT press (R74) -/

/-- A press from a source (R74). -/
def shotPressed (source : PressSource) (s : State) : State :=
  if s.shots.press.isSome then s
  else { s with shots := { s.shots with press := some ⟨source, some pressTicks, false⟩ } }

/-- A release from a source (R74). -/
def shotReleased (source : PressSource) (s : State) : State :=
  match s.shots.press with
  | some p =>
    if p.source = source then
      let s := { s with shots := { s.shots with press := none } }
      if p.pushed then s else recallTaken .press s
    else s
  | none => s

/-- The release that the viewfinder's becoming ABSENT causes (R74). -/
def shotPressLost (s : State) : State :=
  match s.shots.press with
  | some p =>
    if p.source = .viewfinder then { s with shots := { s.shots with press := none } } else s
  | none => s

/-- The 1 s timer expires (R74). -/
def shotPressExpired (s : State) : State :=
  match s.shots.press with
  | some p =>
    if p.pushed then s
    else pushTaken .press
      { s with shots := { s.shots with press := some { p with timer := none, pushed := true } } }
  | none => s

/-- SHOT_PRESS_TIMER_EXPIRY (R74). -/
def execShotPressTimerExpiry (s : State) : Host.Outcome State Fault Refusal := .next (shotPressExpired s)

/-! ### Stack requests (R75) -/

/-- SHOT_CLEAR is taken (R75). -/
def shotClearTaken (slot : Fin 32) (s : State) : State :=
  if s.shots.op.isSome then complete slot .busy [0] s
  else
    complete slot .ok [byteOf s.shots.depth] { s with shots := { s.shots with banks := [], spill := 0 } }

/-- SHOT_CLEAR (R75). -/
def execShotClear (slot : Fin 32) (s : State) : Host.Outcome State Fault Refusal :=
  .next (serve slot (.shotClear slot) (shotClearTaken slot) s)

/-- SET_SHOT_POLICY is taken (R75). -/
def setShotPolicyTaken (slot : Fin 32) (policy : Byte) (s : State) : State :=
  if policy.toNat > 1 then complete slot .badValue [] s
  else complete slot .ok [] { s with shots := { s.shots with refuse := policy == 1 } }

/-- SET_SHOT_POLICY (R75). -/
def execSetShotPolicy (slot : Fin 32) (policy : Byte) (s : State) : Host.Outcome State Fault Refusal :=
  .next (serve slot (.setShotPolicy slot policy) (setShotPolicyTaken slot policy) s)

end Sys2Proof.Machine
end

