-- ==== Sys2Proof/Machine/Cues.lean ====
section
/-! DEFINITION. The cue comparators (R165 to R170), and the parts of the lens drive and the record engine that
hand values to them: new zoom positions, focus steps, and the record engine's frame start. -/

namespace Sys2Proof.Machine

/-! ### Firing (R169) -/

/-- The action is delivered to its owner with source CUE, and an answer that comes at once is taken
(R169). -/
def deliverAction (n : Fin 4) (action : CueAction) (s : State) : State :=
  match action with
  | .eventOnly => cueAnswer n true s
  | .recStart =>
    let taken := (startRefusal s).isNone
    cueAnswer n taken (startTaken .cue s)
  | .recStop =>
    let taken := stopActs s
    cueAnswer n taken (stopGiven .cue s)
  | .markCue =>
    let taken := markTaken .cue s && !marksFull s
    cueAnswer n taken (addMark .cue (some n.val) s)
  | .shotPush => pushTaken (.cue n) s
  | .shotRecall => recallTaken (.cue n) s

/-- A cue record after steps 2 to 4 of a firing (R169). -/
def Cue.fired (label : Stamp) (c : Cue) : Cue :=
  { c with lastFired := some label, taken := false, enable := c.enable && !c.once }

/-- A channel fires (R169). -/
def fireCue (n : Fin 4) (s : State) : State :=
  let s := latch .cueFired s
  let action := s.cues[n].action
  deliverAction n action { s with cues := modify s.cues n (Cue.fired (stampNow s)) }

/-- Each channel of the four, in ascending order (log 6). -/
def eachCue (f : Fin 4 → State → State) (s : State) : State :=
  (List.finRange 4).foldl (fun s n => f n s) s

/-! ### TC cues (R166) -/

/-- A TC cue's value matches a label under its mask (R166). -/
def tcMatches (value : Label) (mask : CueMask) (label : Label) : Bool :=
  (mask.hours || value.hours == label.hours) && (mask.minutes || value.minutes == label.minutes)
    && (mask.seconds || value.seconds == label.seconds) && (mask.frames || value.frames == label.frames)

/-- A channel with source TC that matches the label. -/
def Cue.matchesTc (label : Label) (c : Cue) : Bool :=
  match c.source with
  | .tc value => c.enable && tcMatches value c.mask label
  | .zoom _ => false
  | .focus _ => false
  | .clipFrames _ => false

/-- The cue comparators take the frame-start notice (R166). -/
def cuesFrame (label : Label) (s : State) : State :=
  eachCue (fun n s => if s.cues[n].matchesTc label then fireCue n s else s) s

/-! ### Lens cues (R167) -/

/-- A condition between the previous sample and the new one (R167). -/
def crosses (condition : CueCondition) (value p q : Nat) : Bool :=
  let up := decide (p < value) && decide (value ≤ q)
  let down := decide (p > value) && decide (value ≥ q)
  match condition with
  | .crossUp => up
  | .crossDown => down
  | .crossAny => up || down

/-- A channel tests a sample of its source and keeps it (R167). -/
def sampleCue (value q : Nat) (n : Fin 4) (s : State) : State :=
  let c := s.cues[n]
  let fires := match c.previous with
    | some p => c.enable && crosses c.condition value p q
    | none => false
  let s := { s with cues := modify s.cues n fun c => { c with previous := some q } }
  if fires then fireCue n s else s

/-- A new Z reaches the channels with source ZOOM (R167). -/
def zoomCues (z : Nat) (s : State) : State :=
  eachCue (fun n s => match s.cues[n].source with
    | .zoom value => sampleCue value z n s
    | .tc _ => s
    | .focus _ => s
    | .clipFrames _ => s) s

/-- A focus position handed over at a step reaches the channels with source FOCUS (R167). -/
def focusCues (p : Nat) (s : State) : State :=
  eachCue (fun n s => match s.cues[n].source with
    | .focus value => sampleCue value p n s
    | .tc _ => s
    | .zoom _ => s
    | .clipFrames _ => s) s

/-! ### CLIP_FRAMES cues (R168) -/

/-- Every channel clears its fired-this-clip flag at a clip opening (R168). -/
def clearClipFlags (s : State) : State :=
  { s with cues := mapBank (fun c => { c with firedClip := false }) s.cues }

/-- A channel with source CLIP_FRAMES that fires at a report (R168). -/
def Cue.reaches (frames : Nat) (c : Cue) : Bool :=
  match c.source with
  | .clipFrames value => c.enable && !c.firedClip && decide (value ≤ frames)
  | .tc _ => false
  | .zoom _ => false
  | .focus _ => false

/-- The record engine reports the frames of the open clip (R168). -/
def reportFrames (frames : Nat) (s : State) : State :=
  eachCue (fun n s =>
    if s.cues[n].reaches frames then
      fireCue n { s with cues := modify s.cues n fun c => { c with firedClip := true } }
    else s) s

/-! ### The record engine's frame start (R116) -/

/-- The frames of the open clip; 0 where there is none. -/
def openFrames (s : State) : Nat :=
  match openClip s with
  | some k => k.frames
  | none => 0

/-- The frame start at which the clip's frames reach the frames per day (R116). -/
def dayLimitDue (s : State) : Bool :=
  s.recorder.state == .recording && s.recorder.pendingStop.isNone
    && openFrames s + 1 == framesPerDay s.clock.rate s.clock.drop

/-- A pending stop takes effect: STOPPING, DRAINING, the clip CLOSING with the reason (R116, R125). -/
def stopTakesEffect (reason : StopReason) (s : State) : State :=
  let s := updateOpen (fun k => { k with state := .closing, reason := some reason }) s
  let s := { s with recorder := { s.recorder with phase := some .draining, pendingStop := none } }
  drainIfDone (setRecState .stopping s)

/-- A frame is counted in the open clip (R116). -/
def countFrame (s : State) : State :=
  let limit := dayLimitDue s
  let s := updateOpen (fun k => { k with frames := k.frames + 1 }) s
  let s := if limit then stopGiven .dayLimit s else s
  reportFrames (openFrames s) s

/-- A clip opens at this frame start, and its frames are reported (R117, R168). -/
def openAtFrame (label : Label) (s : State) : State :=
  let s := clipOpens label s
  if s.recorder.state = .recording then reportFrames (openFrames s) (clearClipFlags s) else s

/-- The record engine takes the frame-start notice and, in REC_RUN, answers whether its state is REC, which the
clock keeps as the recorded-frame flag (R3, R116). -/
def recordFrame (label : Label) (s : State) : State :=
  let s := match s.recorder.state with
    | .arming => openAtFrame label s
    | .recording =>
      match s.recorder.pendingStop with
      | some reason => stopTakesEffect reason s
      | none => countFrame s
    | .standby | .prerec | .stopping | .halted => s
  if s.clock.mode = .recRun then
    { s with clock := { s.clock with recorded := s.recorder.state == .recording } }
  else s

/-! ### New zoom positions (R38) -/

/-- Z of a zoom code (R38). -/
def zoomOf (z : Zoom) (code : Nat) : Nat :=
  (clampInt 0 4095 ((((code : Int) - z.wide) * 4095).tdiv ((z.tele : Int) - z.wide))).toNat

/-- A completed conversion of channel 2: tracking, then the cues, then the lens drive's own profile
(R38, log 20). -/
def zoomSample (code : Nat) (s : State) : State :=
  let z := zoomOf s.zoom code
  let s := { s with zoom := { s.zoom with z := some z } }
  evalZoom (reclampZoom (zoomCues z (trackZ z s)))

/-! ### Focus steps (R51) -/

/-- A step in MOVING: position, lag, cues, arrival (R51, R52, R67, R167, log 20). -/
def movingStep (p : Nat) (s : State) : State :=
  let s := updateLag { s with focus := s.focus.step p }
  focusArrived (focusCues (stepToward p s.focus.target) s)

/-- A step of the focus stepper (R50, R51). -/
def focusStepTaken (s : State) : State :=
  match s.focus.state, s.focus.pos with
  | .referencing, _ => referencingStep s
  | .moving, some p => movingStep p s
  | _, _ => s

/-- FOCUS_STEP (R50, R51). -/
def execFocusStep (s : State) : Host.Outcome State Fault Refusal := .next (focusStepTaken s)

/-- REFERENCING_FAULT (R50): the 8,704th referencing step. -/
def execReferencingFault (s : State) : Host.Outcome State Fault Refusal :=
  .next (if referencingFaultDue s then referencingStep s else s)

/-! ### SET_CUE (R170) -/

/-- The source of a code with its value (R170). -/
def cueParamSource (p : CueParam) : Option CueSource :=
  let v := p.value.toNat
  match p.source.toNat with
  | 0 => some (.tc ⟨v % 256, v / 256 % 256, v / 65536 % 256, v / 16777216⟩)
  | 1 => if v ≤ 4095 then some (.zoom v) else none
  | 2 => if v ≤ 8191 then some (.focus v) else none
  | 3 => if 1 ≤ v && v ≤ 2147483647 then some (.clipFrames v) else none
  | _ => none

/-- The mask of a code (R170). -/
def cueParamMask (p : CueParam) : CueMask where
  hours := p.mask.getLsbD 0
  minutes := p.mask.getLsbD 1
  seconds := p.mask.getLsbD 2
  frames := p.mask.getLsbD 3

/-- The condition of a code (R170). -/
def CueCondition.ofCode : Nat → Option CueCondition
  | 0 => some .crossUp | 1 => some .crossDown | 2 => some .crossAny | _ => none

/-- The action of a code (R170). -/
def CueAction.ofCode : Nat → Option CueAction
  | 0 => some .eventOnly | 1 => some .recStart | 2 => some .recStop | 3 => some .markCue
  | 4 => some .shotPush | 5 => some .shotRecall | _ => none

/-- A TC value's fields are in range, but for those whose match-any flag is set (R170). -/
def tcValueValid (rate : FrameRate) (mask : CueMask) (l : Label) : Bool :=
  (mask.hours || decide (l.hours ≤ 23)) && (mask.minutes || decide (l.minutes ≤ 59))
    && (mask.seconds || decide (l.seconds ≤ 59)) && (mask.frames || decide (l.frames < rate.labelRate))

/-- The cue record that SET_CUE writes; none when it is refused (R170). -/
def cueOfParam (rate : FrameRate) (p : CueParam) : Option Cue :=
  match cueParamSource p, CueCondition.ofCode p.condition.toNat, CueAction.ofCode p.action.toNat with
  | some source, some condition, some action =>
    let fits := match source with
      | .tc l => tcValueValid rate (cueParamMask p) l
      | .zoom _ => true
      | .focus _ => true
      | .clipFrames _ => true
    if p.enable.toNat ≤ 1 && p.mode.toNat ≤ 1 && p.mask.toNat ≤ 15 && fits then
      some ⟨p.enable == 1, source, (cueParamMask p), condition, action, p.mode == 0, none, false, none, false⟩
    else none
  | _, _, _ => none

/-- The cue channel of a number (R170). -/
def cueIndex : Nat → Option (Fin 4)
  | 0 => some 0 | 1 => some 1 | 2 => some 2 | 3 => some 3 | _ => none

/-- SET_CUE is taken (R170). -/
def setCueTaken (slot : Fin 32) (p : CueParam) (s : State) : State :=
  match cueIndex p.channel.toNat, cueOfParam s.clock.rate p with
  | some n, some cue => complete slot .ok [] { s with cues := put s.cues n cue }
  | _, _ => complete slot .badValue [] s

/-- SET_CUE (R170). -/
def execSetCue (slot : Fin 32) (cue : CueParam) (s : State) : Host.Outcome State Fault Refusal :=
  .next (serve slot (.setCue slot cue) (setCueTaken slot cue) s)

end Sys2Proof.Machine
end

