-- ==== Sys2Proof/Machine/Page.lean ====
section
/-! DEFINITION. The display page (R159 to R161, section 11.6): its fields, the remaining minutes, the alert
list, the rebuild and the swap. -/

namespace Sys2Proof.Machine

/-- The remaining minutes of a card at a bitrate (R161). -/
def remainingMinutes (bitrate : Nat) (k : Card) : Nat :=
  match k.state with
  | .ready | .active | .full => k.free * 524288 / (bitrate * 60000000)
  | .protect => 0
  | .empty | .mounting | .formatting | .fault => 65535

/-- A card that is ACTIVE with remaining minutes under 2 (R161). -/
def nearEnd (bitrate : Nat) (k : Card) : Bool :=
  k.state == .active && decide (remainingMinutes bitrate k < 2)

/-- MEDIA_NEAR_END (R161). -/
def mediaNearEnd (s : State) : Bool :=
  (nearEnd s.recorder.bitrate s.cardA || nearEnd s.recorder.bitrate s.cardB)
    && (s.recorder.mirror || (s.cardA.state != .ready && s.cardB.state != .ready))

/-- The conditions of the alert list, in rank order (R161). -/
def alertConditions (s : State) : List (Nat × Bool) :=
  [(1, s.recorder.state == .halted), (2, s.power.state == .empty),
   (3, s.cardA.state == .fault || s.cardB.state == .fault), (4, mediaNearEnd s),
   (5, s.power.state == .low), (6, s.clock.genlock && s.clock.lock != .locked),
   (7, s.audio.lost), (8, s.stab.state == .off)]

/-- The four entries of the alert list (R161). -/
def alertList (s : State) : List Nat :=
  ((((alertConditions s).filter (fun (c : Nat × Bool) => c.2)).map (fun (c : Nat × Bool) => c.1)) ++ List.replicate 4 0).take 4

/-- The magnitude of a level in one byte, capped at 255 (R160). -/
def levelByte (level : Int) : Byte := byteOf (min level.natAbs 255 : Nat)

/-- The 64 bytes of a page, with the version field still 0 (R159, R160, section 11.6). -/
def composePage (label : Label) (s : State) : List Byte :=
  let number := match openClip s with
    | some k => k.number
    | none => 0
  let frames := match openClip s with
    | some k => k.frames
    | none => 0
  let channels := s.audio.channels.toList
  [0, packed [(bit (tally s.recorder), 0), (bit s.clock.drop, 1), (bit (s.clock.mode == .recRun), 2),
      (bit s.clock.genlock, 3), (bit (s.clock.lock == .locked), 4)]]
    ++ labelBytes label ++ field16 number ++ field24 frames
    ++ [packed [(s.cardA.state.code, 0), (s.cardB.state.code, 4)]]
    ++ field16 (remainingMinutes s.recorder.bitrate s.cardA)
    ++ field16 (remainingMinutes s.recorder.bitrate s.cardB)
    ++ [byteOf (batteryPercent s.power.filter s.power.empty),
        packed [(s.power.state.code, 0), (s.stab.state.code, 2), (bit s.stab.yaw.saturated, 5),
          (bit s.stab.pitch.saturated, 6)]]
    ++ channels.map (fun c => levelByte c.held)
    ++ [packed [(bit s.audio.channels[0].overFlag, 0), (bit s.audio.channels[1].overFlag, 1),
          (bit s.audio.channels[2].overFlag, 2), (bit s.audio.channels[3].overFlag, 3)]]
    ++ field16 (s.zoom.z.getD 0) ++ field16 (s.focus.pos.getD 0) ++ [byteOf (s.iris.pos.getD 0)]
    ++ field16 s.track.d ++ [byteOf (s.shots.banks.length + s.shots.spill : Nat)]
    ++ (alertList s).map (fun (c : Nat) => byteOf c) ++ s.vf.text.take 24 ++ List.replicate 5 0

/-- The building buffer: the one that is not shown; while none is shown, before the first swap after a reset, buffer
X (R149, log 52). -/
def Viewfinder.building (v : Viewfinder) : PageBuffer :=
  match v.shown with
  | some .x => .y
  | some .y => .x
  | none => .x

/-- A buffer's bytes. -/
def Viewfinder.page (b : PageBuffer) (v : Viewfinder) : List Byte :=
  match b with
  | .x => v.pageX
  | .y => v.pageY

/-- A buffer with new bytes. -/
def Viewfinder.withPage (b : PageBuffer) (bytes : List Byte) (v : Viewfinder) : Viewfinder :=
  match b with
  | .x => { v with pageX := bytes }
  | .y => { v with pageY := bytes }

/-- The viewfinder link takes the frame-start notice: a rebuild begins (R159). -/
def pageFrame (label : Label) (s : State) : State :=
  let v := s.vf.withPage s.vf.building (composePage label s)
  { s with vf := { v with build := .building rebuildTicks } }

/-- A rebuild is in progress (R153, R159). -/
def Viewfinder.rebuilding (v : Viewfinder) : Bool :=
  match v.build with
  | .building _ => true
  | .idle => false
  | .waiting => false

/-- The byte at the read pointer is sent from the shown buffer, and the pointer advances (R151, log 24). -/
def Viewfinder.send (v : Viewfinder) : Viewfinder :=
  match v.shown with
  | some b => { v with sentByte := byteAt (v.page b) v.pointer, pointer := (v.pointer + 1) % 64 }
  | none => v

/-- A swap: the version goes up and is written into the page, the building buffer becomes shown, and a read
held for it is released (R151, R159). -/
def Viewfinder.swap (v : Viewfinder) : Viewfinder :=
  let b := v.building
  let version := (v.version + 1) % 256
  let bytes := (v.page b).set 0 (byteOf version)
  let v := { v.withPage b bytes with shown := some b, build := .idle, version := version }
  match v.target with
  | .holdRead => { v with target := .addressedRead }.send
  | .idle => v
  | .addressedWrite => v
  | .addressedRead => v
  | .holdWrite _ => v
  | .ignore => v

/-- A waiting buffer is swapped when no page has been shown, or when no read is in progress (R159). -/
def Viewfinder.trySwap (v : Viewfinder) : Viewfinder :=
  if v.build = .waiting && (v.shown.isNone || !v.reading) then v.swap else v

end Sys2Proof.Machine
end

