-- ==== Sys2Proof/WellFormed.lean ====
section
/-! DEFINITION. When a command's operands have the shape its rule gives them: the lists of a
request have the length the kind table fixes (section 11.5), a finished read has the length of what
was read, and an order of receivers names each of them once. -/

namespace Sys2Proof

/-- Every receiver of the frame-start notice, in the order of R3's table. -/
def Receiver.all : List Receiver := [.record, .audio, .lens, .page, .cues, .clock]

/-- An order in which the six receivers take one notice: each of them once (R3). -/
def Receiver.isOrder (order : List Receiver) : Bool :=
  order.length == 6 && Receiver.all.all fun r => order.contains r

/-- The parameter bytes that a fetch reads: as many as the header's length says when that is 256 or
less, and none when it is more (R179). -/
def FetchEnd.wellFormed : FetchEnd → Bool
  | .data _ length params => params.length == (if length.toNat ≤ 256 then length.toNat else 0)
  | .error => true

/-- A finished bus read of `n` bytes, or a bus error. -/
def ReadEnd.wellFormed (n : Nat) : ReadEnd → Bool
  | .data bytes => bytes.length == n
  | .error => true

/-- The header fields fit the header's field widths (R94). -/
def HeaderAnswer.wellFormed : HeaderAnswer → Bool
  | .header capacity committed indexCount lastClip =>
      decide (capacity < 2 ^ 32) && decide (committed < 2 ^ 32) && decide (indexCount < 2 ^ 16)
        && decide (lastClip < 2 ^ 16)
  | .error => true

/-- Whether a command's operands have the shape its rule gives them. -/
def Instr.wellFormed : Instr → Bool
  | .fetchEnd read _ => read.wellFormed
  | .setEventLevels _ levels => levels.length == 25
  | .frameStart order => Receiver.isOrder order
  | .dayLimitReached order => Receiver.isOrder order
  | .holdoverExpiry order => Receiver.isOrder order
  | .referenceEdge order => Receiver.isOrder order
  | .setLines _ groups => groups.length == 7
  | .irisStall order => Receiver.isOrder order
  | .lensTableReadEnd read => read.wellFormed 384
  | .spillReadEnd read => read.wellFormed 32
  | .headerReadEnd _ answer => answer.wellFormed
  | .writeEssence _ extents => decide (extents.length < 256)
  | .muteCountExpiry _ order => Receiver.isOrder order
  | .limiterRelease _ order => Receiver.isOrder order
  | .agcRise _ order => Receiver.isOrder order
  | .audioConfig _ groups => groups.length == 4
  | .setVfText _ _ chars => chars.length == 24
  | .powerOnReset _ | .controllerReset | .controlWrite _ | .workBaseWrite _ | .postWrite _ | .doneRead
  | .releaseWrite _ | .eventsRead | .registerWriteNoEffect _ _ | .fetchStart | .laneStart _
  | .completionWritesEnd _ | .cancel _ _ | .getStatus _ | .setCue _ _ | .setVideoFormat _ _ _
  | .setTc _ _ _ _ _ | .setTcMode _ _ | .setGenlock _ _ | .missedEdge | .lineRawChange _ _
  | .debounceExpiry _ | .scanFrameStart | .channelStarved _ | .conversionComplete _ _ | .setScan _ _
  | .setPowerLimits _ _ _ | .zoomMove _ _ _ | .zoomSpeed _ _ _ | .zoomSpeedExpiry | .zoomStall
  | .focusStep | .referencingFault | .focusMove _ _ _ | .irisSet _ _ | .lensStop _
  | .loadLensTables _ _ | .setTracking _ _ | .shotPush _ | .spillWriteEnd _ | .shotRecall _
  | .shotPressTimerExpiry | .shotClear _ | .setShotPolicy _ _ | .stabSettled | .panEntry _ _
  | .panExit _ _ | .stabMode _ _ | .stabParams _ _ _ _ _ _ | .stabCalibrate _ | .calibrationEnd _
  | .mountAfterResetStart _ | .blockWriteEnd _ _ | .extentSourceError _ | .indexWriteEnd _ _
  | .formatEnd _ _ | .cardLinkTimeout _ | .formatCard _ _ | .recStart _ | .recStop _
  | .recGuardExpiry | .clearHalt _ | .mark _ _ _ | .goodPulseExpiry | .setRecMode _ _ _ _ _
  | .listClips _ _ | .audioFrame _ _ _ _ | .syncGapExpiry | .recoveryTimerExpiry | .codecWriteEnd
  | .audioLevels _ _ _ _ _ _ | .linkStart | .linkStop | .addressByte _ _ | .writeDataByte _
  | .readByteAcknowledge _ | .writeHoldTimeout | .decoderTakeByte | .pointer _ | .rocker _
  | .focusDelta _ | .irisDelta _ | .button _ _ | .panelKey _ _ | .zoomHoldExpiry
  | .axisHoldExpiry _ | .presenceTimerExpiry | .pageRebuildComplete | .setVfConfig _ _ => true

end Sys2Proof
end

