-- ==== Sys2Proof/Machine/Clock.lean ====
section
/-! DEFINITION. The frame clock and time code unit (Chapter 1): frame starts, reference edges, lock states and
the four requests, with the commands that name a particular frame start. -/

namespace Sys2Proof.Machine

/-! ### Lock states (R6 to R10) -/

/-- The state with the clock changed by `f`. -/
def updateClock (f : Clock → Clock) (s : State) : State := { s with clock := f s.clock }

/-- A lock state is entered; REF_STATE latches on a change (section 1.4). -/
def setLock (st : LockState) (s : State) : State :=
  if s.clock.lock = st then s
  else latch .refState (updateClock (fun c => { c with lock := st }) s)

/-- Entry to FREE (R2, R7): the watchdog stops (R6), and its missed-edge count is set to 0 (DESIGN CHOICE, log 56). -/
def enterFree (s : State) : State :=
  updateClock (fun c => { c with
    slew := 0, lockCount := 0, unlockCount := 0, holdover := 0, watchdog := none, missed := 0 })
    (setLock .free s)

/-- Entry to ACQUIRE (R8). -/
def enterAcquire (s : State) : State :=
  updateClock (fun c => { c with lockCount := 0, watchdog := some 0, missed := 0 }) (setLock .acquire s)

/-- Entry to HOLDOVER (R10): the watchdog stops (R6), and its missed-edge count is left as it is (DESIGN CHOICE,
log 56). -/
def enterHoldover (s : State) : State :=
  updateClock (fun c => { c with slew := 0, watchdog := none, holdover := 0 }) (setLock .holdover s)

/-! ### Frame start (R2, R3, R12) -/

/-- The label of the new frame (R12). -/
def Clock.nextLabel (c : Clock) : Label :=
  match c.preset with
  | some p => p.label
  | none =>
    match c.mode with
    | .freeRun => addFrames c.rate c.drop c.label 1
    | .recRun => if c.recorded then addFrames c.rate c.drop c.label 1 else c.label

/-- The counter restarts, the period is loaded and the label is settled (R2, R12); a pending preset takes
effect, and its SET_TC completes with the preset label (R16). -/
def settleFrame (s : State) : State :=
  let label := s.clock.nextLabel
  let preset := s.clock.preset
  let s := updateClock (fun c => { c with
    counter := 0, frameDue := false, period := ((c.rate.period : Int) + c.slew).toNat
    label := label, delivered := some label, preset := none }) s
  match preset with
  | some p => completeWith (some p.label) p.slot (okStatus p.adjusted) (labelBytes p.label) s
  | none => s

/-- The clock's own use of the notice: the holdover count (R10). -/
def clockFrame (s : State) : State :=
  if s.clock.lock = .holdover then
    let s := updateClock (fun c => { c with holdover := c.holdover + 1 }) s
    if s.clock.holdover ≥ 250 then enterFree s else s
  else s

/-- A receiver takes the frame-start notice with its label (R3). -/
def receiveNotice (label : Label) (r : Receiver) (s : State) : State :=
  match r with
  | .record => recordFrame label s
  | .audio => audioFrame s
  | .lens => lensFrame s
  | .page => pageFrame label s
  | .cues => cuesFrame label s
  | .clock => clockFrame s

/-- An order in which each receiver takes the notice once: the listed ones first, at their first place, then
the others (log 5). -/
def receiverOrder (order : List Receiver) : List Receiver :=
  (order ++ Receiver.all).eraseDups

/-- The receivers of a list take the notice, in order. -/
def deliverNotice (label : Label) (order : List Receiver) (s : State) : State :=
  order.foldl (fun s r => receiveNotice label r s) s

/-- A frame start (R2, R3). -/
def frameStarts (order : List Receiver) (s : State) : State :=
  let s := settleFrame s
  deliverNotice s.clock.label (receiverOrder order) s

/-- The state in which a receiver takes the notice of the next frame start. -/
def atNotice (r : Receiver) (order : List Receiver) (s : State) : State :=
  let s := settleFrame s
  deliverNotice s.clock.label ((receiverOrder order).takeWhile fun x => x != r) s

/-- FRAME_START (R2, R3). -/
def execFrameStart (order : List Receiver) (s : State) : Host.Outcome State Fault Refusal :=
  .next (frameStarts order s)

/-- A frame start at which something named comes about (log 4). -/
def frameStartsIf (due : Bool) (order : List Receiver) (s : State) : State :=
  if due then frameStarts order s else s

/-- DAY_LIMIT_REACHED (R116). -/
def execDayLimitReached (order : List Receiver) (s : State) : Host.Outcome State Fault Refusal :=
  .next (frameStartsIf (dayLimitDue (atNotice .record order s)) order s)

/-- The next frame start is the 250th in HOLDOVER (R10). -/
def holdoverDue (s : State) : Bool := s.clock.lock == .holdover && decide (s.clock.holdover + 1 ≥ 250)

/-- HOLDOVER_EXPIRY (R10). -/
def execHoldoverExpiry (order : List Receiver) (s : State) : Host.Outcome State Fault Refusal :=
  .next (frameStartsIf (holdoverDue s) order s)

/-- IRIS_STALL (R56). -/
def execIrisStall (order : List Receiver) (s : State) : Host.Outcome State Fault Refusal :=
  .next (frameStartsIf (irisStallDue (atNotice .lens order s)) order s)

/-- MUTE_COUNT_EXPIRY (R144). -/
def execMuteCountExpiry (channel : Fin 4) (order : List Receiver) (s : State) :
    Host.Outcome State Fault Refusal :=
  .next (frameStartsIf (muteExpiryDue channel (atNotice .audio order s)) order s)

/-- LIMITER_RELEASE (R141). -/
def execLimiterRelease (channel : Fin 4) (order : List Receiver) (s : State) :
    Host.Outcome State Fault Refusal :=
  .next (frameStartsIf (limiterReleaseDue channel (atNotice .audio order s)) order s)

/-- AGC_RISE (R142). -/
def execAgcRise (channel : Fin 4) (order : List Receiver) (s : State) : Host.Outcome State Fault Refusal :=
  .next (frameStartsIf (agcRiseDue channel (atNotice .audio order s)) order s)

/-! ### Reference edges (R4, R5, R8, R9) -/

/-- The phase error of an edge (R5). -/
def phaseError (counter period : Nat) : Int :=
  if 2 * counter < period then counter else (counter : Int) - period

/-- The slew correction of a phase error (R5). -/
def slewOf (e : Int) : Int := clampInt (-54) 54 (e.tdiv 8)

/-- An edge slews (R5). -/
def slewEdge (e : Int) (s : State) : State := updateClock (fun c => { c with slew := slewOf e }) s

/-- The jump is inhibited while a clip is OPEN or CLOSING (R8). -/
def jumps (e : Int) (s : State) : Bool := decide (e.natAbs > 2700) && (openClip s).isNone

/-- A phase jump: the counter is set to 0, the correction to 0, and a frame start is taken (R2, R8). -/
def phaseJump (order : List Receiver) (s : State) : State :=
  frameStarts order (updateClock (fun c => { c with slew := 0 }) s)

/-- The lock count after an edge, with LOCKED at 8 (R8). -/
def countLock (e : Int) (s : State) : State :=
  let n := if e.natAbs ≤ 27 then s.clock.lockCount + 1 else 0
  let s := updateClock (fun c => { c with lockCount := n }) s
  if n ≥ 8 then updateClock (fun c => { c with unlockCount := 0 }) (setLock .locked s) else s

/-- A GOOD edge in ACQUIRE (R8). -/
def acquireEdge (e : Int) (order : List Receiver) (s : State) : State :=
  countLock e (if jumps e s then phaseJump order s else slewEdge e s)

/-- A GOOD edge in LOCKED (R9). -/
def lockedEdge (e : Int) (order : List Receiver) (s : State) : State :=
  let s := slewEdge e s
  if e.natAbs ≤ 270 then updateClock (fun c => { c with unlockCount := 0 }) s
  else
    let s := updateClock (fun c => { c with unlockCount := c.unlockCount + 1 }) s
    if s.clock.unlockCount ≥ 2 then acquireEdge e order (enterAcquire s) else s

/-- A GOOD edge (R4, R7 to R10). -/
def goodEdge (order : List Receiver) (s : State) : State :=
  let e := phaseError s.clock.counter s.clock.rate.period
  let s := updateClock (fun c => { c with prevEdge := some 0, watchdog := some 0, missed := 0 }) s
  match s.clock.lock with
  | .free | .holdover => acquireEdge e order (enterAcquire s)
  | .acquire => acquireEdge e order s
  | .locked => lockedEdge e order s

/-- The classes of a reference edge (R4). -/
inductive EdgeClass where
  | glitch | first | mismatch | good
  deriving DecidableEq, Repr

/-- The classification of an edge (R4). -/
def classifyEdge (prevEdge : Option Nat) (period : Nat) : EdgeClass :=
  match prevEdge with
  | none => .first
  | some t =>
    if t < period / 2 then .glitch
    else if 100 * ((t : Int) - period).natAbs > period then .mismatch
    else .good

/-- A reference edge (R4). -/
def referenceEdgeTaken (order : List Receiver) (s : State) : State :=
  if s.clock.genlock then
    match classifyEdge s.clock.prevEdge s.clock.rate.period with
    | .glitch => updateClock (fun c => { c with glitches := countUp c.glitches }) s
    | .first => updateClock (fun c => { c with prevEdge := some 0 }) s
    | .mismatch =>
      latch .diag (updateClock (fun c => { c with
        prevEdge := some 0, mismatches := countUp c.mismatches }) s)
    | .good => goodEdge order s
  else s

/-- REFERENCE_EDGE (R4). -/
def execReferenceEdge (order : List Receiver) (s : State) : Host.Outcome State Fault Refusal :=
  .next (referenceEdgeTaken order s)

/-- The watchdog count at which the next edge is missed (R6). -/
def missThreshold (period missed : Nat) : Nat := (2 * missed + 3) * period / 2

/-- The watchdog passes an edge threshold (R6). -/
def missedEdgeTaken (s : State) : State :=
  match s.clock.watchdog with
  | some w =>
    let n := s.clock.missed + 1
    let w := max w (missThreshold s.clock.rate.period s.clock.missed)
    let s := updateClock (fun c => { c with missed := n, watchdog := some w }) s
    if n ≥ 3 then enterHoldover s else s
  | none => s

/-- MISSED_EDGE (R6). -/
def execMissedEdge (s : State) : Host.Outcome State Fault Refusal := .next (missedEdgeTaken s)

/-! ### Requests (R15 to R18) -/

/-- The record state is STANDBY or PREREC. -/
def RecState.isIdle : RecState → Bool
  | .standby => true | .prerec => true
  | .arming => false | .recording => false | .stopping => false | .halted => false

/-- The record state is ARMING, REC or STOPPING (R16, R17). -/
def RecState.isBusy : RecState → Bool
  | .arming => true | .recording => true | .stopping => true
  | .standby => false | .prerec => false | .halted => false

/-- A label brought into a format (R15, step 3). -/
def reformatLabel (rate : FrameRate) (drop : Bool) (l : Label) : Label :=
  ({ l with frames := min l.frames (rate.labelRate - 1) }).nextValid rate drop

/-- The effects of an accepted SET_VIDEO_FORMAT (R15, steps 1 to 6). The label last delivered stays as it was
delivered until the next frame start (log 46). -/
def changeFormat (rate : FrameRate) (drop : Bool) (s : State) : State :=
  let label := reformatLabel rate drop s.clock.label
  let s := updateClock (fun c => { c.withPeriod rate.period with
    rate := rate, drop := drop, slew := 0, label := label, prevEdge := none }) s
  recFormatNotice (if s.clock.genlock then enterAcquire s else enterFree s)

/-- The format of a SET_VIDEO_FORMAT within its ranges (R15). -/
def formatOf (rate drop : Byte) : Option (FrameRate × Bool) :=
  match FrameRate.ofCode rate.toNat with
  | some r =>
    if drop.toNat > 1 then none
    else if drop = 1 && r.dropCount.isNone then none
    else some (r, drop == 1)
  | none => none

/-- SET_VIDEO_FORMAT is taken (R15); BAD_VALUE is tested before BUSY (log 45). -/
def setVideoFormatTaken (slot : Fin 32) (rate drop : Byte) (s : State) : State :=
  let answer (status : Status) (s : State) := complete slot status (labelBytes s.clock.label) s
  match formatOf rate drop with
  | none => answer .badValue s
  | some (r, d) =>
    if s.recorder.state.isIdle then
      let adjusted := reformatLabel r d s.clock.label != s.clock.label
      answer (okStatus adjusted) (changeFormat r d s)
    else answer .busy s

/-- SET_VIDEO_FORMAT (R15). -/
def execSetVideoFormat (slot : Fin 32) (rate drop : Byte) (s : State) : Host.Outcome State Fault Refusal :=
  .next (serve slot (.setVideoFormat slot rate drop) (setVideoFormatTaken slot rate drop) s)

/-- The fields of a preset are in range (R16). -/
def presetInRange (rate : FrameRate) (l : Label) : Bool :=
  decide (l.hours ≤ 23) && decide (l.minutes ≤ 59) && decide (l.seconds ≤ 59)
    && decide (l.frames < rate.labelRate)

/-- SET_TC is taken (R16); BAD_VALUE is tested before BUSY (log 45). -/
def setTcTaken (slot : Fin 32) (l : Label) (s : State) : State :=
  if presetInRange s.clock.rate l then
    if s.recorder.state.isBusy then completeFree slot .busy s
    else
      let moved := l.nextValid s.clock.rate s.clock.drop
      keepRunning slot (updateClock (fun c => { c with preset := some ⟨moved, slot, moved != l⟩ }) s)
  else completeFree slot .badValue s

/-- SET_TC (R16). -/
def execSetTc (slot : Fin 32) (hours minutes seconds frames : Byte) (s : State) :
    Host.Outcome State Fault Refusal :=
  .next (serve slot (.setTc slot hours minutes seconds frames)
    (setTcTaken slot (labelOfBytes hours minutes seconds frames)) s)

/-- The TC mode of a code (R17). -/
def TcMode.ofCode : Nat → Option TcMode
  | 0 => some .freeRun | 1 => some .recRun | _ => none

/-- SET_TC_MODE is taken (R17); BAD_VALUE is tested before BUSY (log 45). -/
def setTcModeTaken (slot : Fin 32) (mode : Byte) (s : State) : State :=
  match TcMode.ofCode mode.toNat with
  | none => complete slot .badValue [] s
  | some m =>
    if s.recorder.state.isBusy then complete slot .busy [] s
    else
      let changed := s.clock.mode != m
      let s := updateClock (fun c => { c with mode := m, recorded := false }) s
      complete slot .ok [] (if changed then recTcModeNotice s else s)

/-- SET_TC_MODE (R17). -/
def execSetTcMode (slot : Fin 32) (mode : Byte) (s : State) : Host.Outcome State Fault Refusal :=
  .next (serve slot (.setTcMode slot mode) (setTcModeTaken slot mode) s)

/-- SET_GENLOCK is taken (R18). -/
def setGenlockTaken (slot : Fin 32) (enable : Byte) (s : State) : State :=
  if enable.toNat > 1 then complete slot .badValue [] s
  else if enable = 1 then complete slot .ok [] (updateClock (fun c => { c with genlock := true }) s)
  else if s.clock.genlock then
    complete slot .ok []
      (enterFree (updateClock (fun c => { c with genlock := false, prevEdge := none }) s))
  else complete slot .ok [] s

/-- SET_GENLOCK (R18). -/
def execSetGenlock (slot : Fin 32) (enable : Byte) (s : State) : Host.Outcome State Fault Refusal :=
  .next (serve slot (.setGenlock slot enable) (setGenlockTaken slot enable) s)

end Sys2Proof.Machine
end

