-- ==== Sys2Proof/Machine/Media.lean ====
section
/-! DEFINITION. The media controller's events (Chapter 6): mounts, removals, ends of link operations, time
limits and FORMAT_CARD. -/

namespace Sys2Proof.Machine

/-! ### Queue returns and index answers (R98, R103, R105) -/

/-- The extents of a write queue, the one in flight first. -/
def Card.queued (k : Card) : List Extent := k.queue.map QueueEntry.extent

/-- A write error, or an INDEX_WRITE that fails: the card goes to FAULT, its queue is returned, its reserved
blocks are released, and an index pending is answered INDEX_LOST (R103, R105). -/
def writeError (c : CardSlot) (s : State) : State :=
  let k := card c s
  let s := setCardState c .fault
    (setCard c { k with op := none, queue := [], reserved := 0, index := none } s)
  let s := cardLost c k.queued s
  if k.index.isSome then indexAnswered c true s else s

/-- The FORMAT_CARD results (R106). -/
def formatResult (k : Card) : List Byte :=
  byteOf k.state.code :: (field32 k.capacity ++ field32 k.free)

/-- A FORMAT_CARD in progress completes at the end of its FORMAT (R106). -/
def endFormat (c : CardSlot) (status : Status) (s : State) : State :=
  match (card c s).format with
  | some slot =>
    let s := setCard c { card c s with format := none } s
    complete slot status (formatResult (card c s)) s
  | none => s

/-- An index pending, or one whose INDEX_WRITE was in flight, is answered INDEX_LOST (R98, step 3). -/
def loseIndex (c : CardSlot) (s : State) : State :=
  if (card c s).index.isSome then indexAnswered c true (setCard c { card c s with index := none, op := none } s)
  else s

/-- A FORMAT_CARD in progress ends by the removal of its card: NO_MEDIA, with the results of the slot that the
removal leaves empty (R98, step 4; R106, log 17). -/
def loseFormat (c : CardSlot) (s : State) : State :=
  match (card c s).format with
  | some slot => complete slot .noMedia (formatResult Card.powerOn) (setCard c { card c s with format := none } s)
  | none => s

/-- The counts and the queue of a removed card are cleared, and the slot becomes EMPTY (R98, steps 5 and 6). -/
def clearCard (c : CardSlot) (s : State) : State :=
  setCardState c .empty (setCard c { Card.powerOn with state := (card c s).state } s)

/-- A detect FALL removes the card, by the six steps of R98 in their order: the operation in flight ends, the queue
is returned, an index is lost, a format ends, the counts are cleared, and the slot becomes EMPTY. -/
def removeCard (c : CardSlot) (s : State) : State :=
  let k := card c s
  if k.state = .empty then s
  else clearCard c (loseFormat c (loseIndex c (cardLost c k.queued (endOp c s))))

/-- A detect RISE mounts a card into an EMPTY slot (R96). -/
def insertCard (c : CardSlot) (s : State) : State :=
  if (card c s).state = .empty then beginMount c s else s

/-! ### Ends of link operations -/

/-- The kind of the operation in flight, and whether its answer is observed. -/
def linkOp (c : CardSlot) (s : State) : Option (LinkOpKind × Bool) :=
  (card c s).op.map fun o => (o.kind, o.observed)

/-- An operation of a kind ends: an unobserved answer changes no state (R107); otherwise `act` takes it. An
answer that no such operation awaits is discarded (R98). -/
def linkEnd (c : CardSlot) (kind : LinkOpKind) (act : State → State) (s : State) : State :=
  match linkOp c s with
  | some (k, observed) =>
    if k = kind then if observed then act (endOp c s) else endOp c s else s
  | none => s

/-- A header is valid (R96). -/
def headerValid (capacity committed lastClip : Nat) : Bool :=
  decide (1 ≤ capacity) && decide (capacity ≤ 16777215) && decide (committed ≤ capacity)
    && decide (lastClip ≤ 9999)

/-- A HEADER_READ ends (R97). -/
def headerAnswered (c : CardSlot) (answer : HeaderAnswer) (s : State) : State :=
  match answer with
  | .header capacity committed indexCount lastClip =>
    if headerValid capacity committed lastClip then
      let s := setCard c { card c s with
        capacity := capacity, committed := committed, reserved := 0, indexCount := indexCount
        lastClip := lastClip } s
      takeLastClip lastClip (setCardState c (derivedCardState c s) s)
    else setCardState c .fault s
  | .error => setCardState c .fault s

/-- HEADER_READ_END (R97). -/
def execHeaderReadEnd (c : CardSlot) (answer : HeaderAnswer) (s : State) : Host.Outcome State Fault Refusal :=
  .next (linkEnd c .headerRead (headerAnswered c answer) s)

/-- The head entry of the queue is done: its blocks are committed, and the record engine is answered
(R102). -/
def writeDone (c : CardSlot) (written : Bool) (s : State) : State :=
  let k := card c s
  match k.queue with
  | e :: rest =>
    let s := setCard c { k with
      queue := rest, committed := k.committed + e.blocks, reserved := k.reserved - e.blocks } s
    let s := latchIf (!written) .workAreaFault s
    idleCheck c (startNext c (extentAnswered c e written (startNext c s)))
  | [] => s

/-- A BLOCK_WRITE ends with the card's answer (R102, R103). -/
def blockAnswered (c : CardSlot) (answer : CardAnswer) (s : State) : State :=
  match answer with
  | .done => writeDone c true s
  | .error => writeError c s

/-- BLOCK_WRITE_END (R102). -/
def execBlockWriteEnd (c : CardSlot) (answer : CardAnswer) (s : State) : Host.Outcome State Fault Refusal :=
  .next (linkEnd c .blockWrite (blockAnswered c answer) s)

/-- EXTENT_SOURCE_ERROR (R102). After a controller reset a bus error on the read of the operation that is let finish is
not observed and latches nothing (log 55). -/
def execExtentSourceError (c : CardSlot) (s : State) : Host.Outcome State Fault Refusal :=
  .next (linkEnd c .blockWrite (writeDone c false) s)

/-- An INDEX_WRITE ends with the card's answer (R105); the clip index count holds at 65,535 (log 49). -/
def indexWriteAnswered (c : CardSlot) (answer : CardAnswer) (s : State) : State :=
  match answer with
  | .done =>
    let k := card c s
    match k.index with
    | some r =>
      let h := k.updatedHeader r.number
      let s := setCard c { k with indexCount := h.indexCount, lastClip := h.lastClip, index := none } s
      idleCheck c (startNext c (indexAnswered c false s))
    | none => s
  | .error => writeError c s

/-- INDEX_WRITE_END (R105). -/
def execIndexWriteEnd (c : CardSlot) (answer : CardAnswer) (s : State) : Host.Outcome State Fault Refusal :=
  .next (linkEnd c .indexWrite (indexWriteAnswered c answer) s)

/-- A FORMAT ends with the card's answer (R106). -/
def formatAnswered (c : CardSlot) (answer : CardAnswer) (s : State) : State :=
  match answer with
  | .done =>
    let s := setCard c { card c s with committed := 0, reserved := 0, indexCount := 0, lastClip := 0 } s
    let s := cardErased c (setCardState c (derivedCardState c s) s)
    endFormat c .ok s
  | .error => endFormat c .mediaFault (setCardState c .fault s)

/-- FORMAT_END (R106). -/
def execFormatEnd (c : CardSlot) (answer : CardAnswer) (s : State) : Host.Outcome State Fault Refusal :=
  .next (linkEnd c .format (formatAnswered c answer) s)

/-- An operation left without an answer past its limit ends as ERROR (R94). -/
def linkTimedOut (c : CardSlot) (s : State) : State :=
  match linkOp c s with
  | some (.headerRead, _) => linkEnd c .headerRead (headerAnswered c .error) s
  | some (.blockWrite, _) => linkEnd c .blockWrite (blockAnswered c .error) s
  | some (.indexWrite, _) => linkEnd c .indexWrite (indexWriteAnswered c .error) s
  | some (.format, _) => linkEnd c .format (formatAnswered c .error) s
  | none => s

/-- CARD_LINK_TIMEOUT (R94). -/
def execCardLinkTimeout (c : CardSlot) (s : State) : Host.Outcome State Fault Refusal :=
  .next (linkTimedOut c s)

/-- The HEADER_READ of a MOUNTING card can start: the link is free (R107). -/
def mountStartDue (c : CardSlot) (s : State) : Bool :=
  (card c s).state == .mounting && (card c s).op.isNone

/-- MOUNT_AFTER_RESET_START (R107). -/
def execMountAfterResetStart (c : CardSlot) (s : State) : Host.Outcome State Fault Refusal :=
  .next (if mountStartDue c s then setCard c ((card c s).start .headerRead 1) s else s)

/-! ### FORMAT_CARD (R106) -/

/-- The status with which FORMAT_CARD is refused for a card, by the first case that applies; none when the
format starts (R106). -/
def formatRefusal (c : CardSlot) (s : State) : Option Status :=
  let k := card c s
  match k.state with
  | .empty | .protect => some .noMedia
  | .active | .mounting | .formatting => some .busy
  | .fault =>
    if isProtected c s then some .noMedia
    else if k.busy || openClipOn c s then some .busy
    else none
  | .ready | .full => if k.busy || openClipOn c s then some .busy else none

/-- The format starts (R106). -/
def formatStarts (slot : Fin 32) (c : CardSlot) (s : State) : State :=
  let s := setCardState c .formatting (keepRunning slot s)
  setCard c { (card c s).start .format 1 with format := some slot } s

/-- FORMAT_CARD is taken (R106). -/
def formatCardTaken (slot : Fin 32) (code : Byte) (s : State) : State :=
  if code.toNat > 1 then completeFree slot .badValue s
  else
    let c := if code = 0 then CardSlot.a else CardSlot.b
    match formatRefusal c s with
    | some status => complete slot status (formatResult (card c s)) s
    | none => formatStarts slot c s

/-- FORMAT_CARD (R106). -/
def execFormatCard (slot : Fin 32) (code : Byte) (s : State) : Host.Outcome State Fault Refusal :=
  .next (serve slot (.formatCard slot code) (formatCardTaken slot code) s)

end Sys2Proof.Machine
end

