-- ==== Sys2Proof/Machine/Lines.lean ====
section
/-! DEFINITION. The line monitor (R20 to R24). -/

namespace Sys2Proof.Machine

/-- One line's record changed by `f`. -/
def updateLine (i : Fin 7) (f : Line → Line) (s : State) : State :=
  { s with lines := modify s.lines i f }

/-- The owner's use of a debounced edge (R22). -/
def deliverEdge (i : Fin 7) (rising : Bool) (s : State) : State :=
  match i with
  | 0 => if rising then insertCard .a s else removeCard .a s
  | 1 => if rising then insertCard .b s else removeCard .b s
  | 2 => checkPoint .a s
  | 3 => checkPoint .b s
  | 4 => if rising then recPressed s else s
  | 5 => if rising then shotPressed .line s else shotReleased .line s
  | 6 => if rising then focusHomeRise s else s

/-- The enable of an edge's direction (R23). -/
def Line.enabled (rising : Bool) (l : Line) : Bool := if rising then l.riseEnable else l.fallEnable

/-- The line-edge record of an enabled edge, with LINE_EDGE (R23). -/
def recordEdge (i : Fin 7) (rising : Bool) (s : State) : State :=
  if s.lines[i].enabled rising then
    latch .lineEdge (updateLine i (fun l => { l with edge := some ⟨rising, stampNow s⟩ }) s)
  else s

/-- The debounced level takes the raw level, the timer stops, and the edge is delivered (R21 to R23). -/
def takeEdge (i : Fin 7) (s : State) : State :=
  let rising := s.lines[i].raw
  let s := updateLine i (fun l => { l with debounced := l.raw, timer := none }) s
  deliverEdge i rising (recordEdge i rising s)

/-- A pin changes its level (R21). -/
def rawChange (i : Fin 7) (level : Bool) (s : State) : State :=
  let l := s.lines[i]
  if l.raw = level then s
  else
    let s := updateLine i (fun l => { l with raw := level }) s
    if l.timer.isSome then updateLine i (fun l => { l with timer := none }) s
    else if level = l.debounced then s
    else if l.debounce > 0 then updateLine i (fun l => { l with timer := some (l.debounce * ticksPerMs) }) s
    else takeEdge i s

/-- LINE_RAW_CHANGE (R21). -/
def execLineRawChange (line : Fin 7) (level : Bool) (s : State) : Host.Outcome State Fault Refusal :=
  .next (rawChange line level s)

/-- DEBOUNCE_EXPIRY (R21). -/
def execDebounceExpiry (line : Fin 7) (s : State) : Host.Outcome State Fault Refusal :=
  .next (if s.lines[line].timer.isSome then takeEdge line s else s)

/-- A line takes its group of SET_LINES (R24). -/
def Line.configure (g : LineParam) (l : Line) : Line :=
  { l with
    debounce := min g.debounce.toNat 255, riseEnable := g.rise == 1, fallEnable := g.fall == 1 }

/-- The lines with the groups of SET_LINES (R24). -/
def configureLines (groups : List LineParam) (lines : Vector Line 7) : Vector Line 7 :=
  Vector.ofFn fun i => match groups[i.val]? with
    | some g => lines[i].configure g
    | none => lines[i]

/-- SET_LINES is taken (R24). -/
def setLinesTaken (slot : Fin 32) (groups : List LineParam) (s : State) : State :=
  let answer (status : Status) (s : State) :=
    complete slot status (s.lines.toList.map fun l => byteOf l.debounce) s
  if groups.any fun g => decide (g.rise.toNat > 1) || decide (g.fall.toNat > 1) then answer .badValue s
  else
    let adjusted := groups.any fun g => decide (g.debounce.toNat > 255)
    answer (okStatus adjusted) { s with lines := configureLines groups s.lines }

/-- SET_LINES (R24). -/
def execSetLines (slot : Fin 32) (groups : List LineParam) (s : State) : Host.Outcome State Fault Refusal :=
  .next (serve slot (.setLines slot groups) (setLinesTaken slot groups) s)

end Sys2Proof.Machine
end

