-- ==== Sys2Proof/Machine/Stab.lean ====
section
/-! DEFINITION. The image stabiliser (Chapter 5). -/

namespace Sys2Proof.Machine

/-! ### Axes -/

/-- The axis record. -/
def Stab.axis (a : Axis) (b : Stab) : StabAxis :=
  match a with
  | .yaw => b.yaw
  | .pitch => b.pitch

/-- The stabiliser with one axis record replaced. -/
def Stab.withAxis (a : Axis) (r : StabAxis) (b : Stab) : Stab :=
  match a with
  | .yaw => { b with yaw := r }
  | .pitch => { b with pitch := r }

/-- The shift-group output code of an axis (R88). -/
def StabAxis.output (r : StabAxis) : Int := 2048 + r.drive

/-- The entry actions of OFF on an axis (R78). -/
def StabAxis.centred (r : StabAxis) : StabAxis :=
  { r with
    acc := 0, drive := 0, inPan := false, saturated := false, rateCount := 0, satCount := 0
    quietCount := 0 }

/-! ### State changes (section 5.2) -/

/-- An entry to OFF, SETTLING, HELD or CALIBRATING: both axes centred (R78), the settling count 0. R79 starts the count
at 0 in SETTLING; that every other entry puts it to 0 is the model's choice (log 54). -/
def Stab.enter (st : StabState) (b : Stab) : Stab :=
  { b with state := st, settling := 0, yaw := b.yaw.centred, pitch := b.pitch.centred }

/-- A change of state: STAB_STATE latches; a state already in force is left as it is (section 5.2). -/
def enterStab (st : StabState) (s : State) : State :=
  if s.stab.state = st then s else latch .stabState { s with stab := s.stab.enter st }

/-- ACTIVE and PANNING. -/
def StabState.computes : StabState → Bool
  | .active => true | .panning => true
  | .off => false | .settling => false | .held => false | .calibrating => false

/-- SETTLING, ACTIVE and PANNING: the states of mode ON without power EMPTY. -/
def StabState.runs : StabState → Bool
  | .settling => true | .active => true | .panning => true
  | .off => false | .held => false | .calibrating => false

/-- The derived state (section 5.2, note 3). -/
def Stab.derived (b : Stab) : StabState :=
  match b.mode with
  | .off => .off
  | .held => .held
  | .on => if b.powerEmpty then .held else .settling

/-- The mode is set and the state moves as the table of section 5.2 states. -/
def setStabMode (m : StabMode) (s : State) : State :=
  if s.stab.mode = m then s
  else
    let s := { s with stab := { s.stab with mode := m } }
    if s.stab.state = .calibrating then s else enterStab s.stab.derived s

/-- A power-state notice (R81); the state follows the table of section 5.2. -/
def stabPowerNotice (old new : PowerState) (s : State) : State :=
  let flag := if new = .empty then true else if old = .empty then false else s.stab.powerEmpty
  let s := { s with stab := { s.stab with powerEmpty := flag } }
  if flag && s.stab.state.runs then enterStab .held s
  else if !flag && s.stab.state == .held && s.stab.mode == .on then enterStab .settling s
  else s

/-- A STAB_TOGGLE press (R80). -/
def stabToggle (s : State) : State :=
  if s.stab.state = .calibrating then s
  else
    match s.stab.mode with
    | .on => setStabMode .off s
    | .off => setStabMode .on s
    | .held => setStabMode .on s

/-! ### Scan frame starts (R79, R89) -/

/-- The next scan frame start is the 200th in SETTLING (R79). -/
def settlingDue (s : State) : Bool := s.stab.state == .settling && decide (s.stab.settling + 1 ≥ 200)

/-- The stabiliser takes a scan frame start: settling (R79), calibration frame count (R89). The settling count stands
at 200 in ACTIVE (log 54). -/
def stabScan (s : State) : State :=
  let b := { s.stab with cal := s.stab.cal.map fun c => { c with frames := min (c.frames + 1) 4000 } }
  let s := { s with stab := b }
  if b.state = .settling then
    if b.settling + 1 ≥ 200 then
      latch .stabState { s with stab := { b with state := .active, settling := 200 } }
    else { s with stab := { b with settling := b.settling + 1 } }
  else s

/-! ### The per-sample computation (R82 to R86) -/

/-- Step 1: the rate (R82). -/
def gyroRate (bias : Int) (code : Nat) : Int := (code : Int) - (bias + 128).tdiv 256

/-- One step of bias tracking (R82). -/
def trackBias (bias : Int) (code : Nat) : Int := bias + ((256 * code : Nat) - bias).tdiv 1024

/-- A gyro code at the end of its range (R86). -/
def endCode (code : Nat) : Bool := code == 0 || code == 4095

/-- Step 2 in ACTIVE and PANNING (R82): an axis in pan keeps its bias. -/
def biasStep (r : StabAxis) (rate : Int) (code : Nat) : Int :=
  if !r.inPan && decide (rate.natAbs < 20) then trackBias r.bias code else r.bias

/-- Steps 3 and 4: dead band and integration (R83). -/
def integrate (b : Stab) (r : StabAxis) (rate : Int) : Int :=
  let eff := if rate.natAbs ≤ b.deadBand then 0 else rate
  let leak := if r.inPan then b.panLeak else b.leak
  r.acc - roundAway (r.acc * leak) 65536 + 256 * eff

/-- Step 5: the shift code of an accumulator (R84). -/
def shiftCode (focal : Nat) (acc : Int) : Int := roundAway (focal * acc) 128000000

/-- The largest accumulator the stroke limit can cancel (R85). -/
def strokeAngle (stroke focal : Nat) : Nat := stroke * 128000000 / focal

/-- Step 6: the drive within the stroke limit (R85). -/
def driveStep (b : Stab) (acc : Int) (r : StabAxis) : StabAxis :=
  let c := shiftCode b.focal acc
  if c.natAbs ≤ b.stroke then { r with acc := acc, drive := -c, saturated := false, satCount := 0 }
  else
    { r with
      acc := signOf c * strokeAngle b.stroke b.focal
      drive := -(signOf c * b.stroke)
      saturated := true
      satCount := min (r.satCount + 1) 200 }

/-- The rate count after a sample, held at 40 (R86, R77); it goes on while the axis is in pan (log 42). -/
def countRate (b : Stab) (rate : Int) (r : StabAxis) : Nat :=
  if rate.natAbs ≥ b.panThreshold then min (r.rateCount + 1) 40 else 0

/-- Step 7 on an axis not in pan (R86). -/
def panEntryStep (b : Stab) (rate : Int) (code : Nat) (r : StabAxis) : StabAxis :=
  let n := countRate b rate r
  if n ≥ 40 || r.satCount ≥ 200 || endCode code then
    { r with rateCount := n, inPan := true, quietCount := 0 }
  else { r with rateCount := n }

/-- Step 7 on an axis in pan (R86). -/
def panExitStep (b : Stab) (rate : Int) (code : Nat) (r : StabAxis) : StabAxis :=
  let q := if decide (rate.natAbs < 100) && !endCode code then min (r.quietCount + 1) 200 else 0
  if q ≥ 200 then { r with inPan := false, rateCount := 0, satCount := 0, quietCount := 0 }
  else { r with quietCount := q, rateCount := countRate b rate r }

/-- Step 7: the pan detector (R86). While the axis is in pan the rate count and the saturated count keep counting; only
the quiet count is read. -/
def panStep (b : Stab) (rate : Int) (code : Nat) (r : StabAxis) : StabAxis :=
  if r.inPan then panExitStep b rate code r else panEntryStep b rate code r

/-- Steps 1 to 7 on one axis (R82 to R86). -/
def computeAxis (b : Stab) (code : Nat) (r : StabAxis) : StabAxis :=
  let rate := gyroRate r.bias code
  let acc := integrate b r rate
  let driven := driveStep b acc { r with last := some code, bias := biasStep r rate code }
  panStep b rate code driven

/-- The state after a computed sample (R86). -/
def Stab.panState (b : Stab) : StabState := if b.yaw.inPan || b.pitch.inPan then .panning else .active

/-- A sample computed in ACTIVE or PANNING: the axis, the saturation start (R85), the state (R86). -/
def computeSample (a : Axis) (code : Nat) (s : State) : State :=
  let old := s.stab.axis a
  let new := computeAxis s.stab code old
  let s := latchIf (new.saturated && !old.saturated) .stabSaturation { s with stab := s.stab.withAxis a new }
  if s.stab.state = s.stab.panState then s
  else latch .stabState { s with stab := { s.stab with state := s.stab.panState } }

/-- A sample collected by a calibration (R89). -/
def Collected.add (code : Nat) (c : Collected) : Collected :=
  ⟨c.sum + code, min c.low code, max c.high code⟩

/-- The spread of the collected codes; 0 for an axis that has collected none (R89, R90). -/
def Collected.spread (c : Collected) : Nat := c.high - c.low

/-- The result of a calibration (R89). -/
def calResult (c : Calibration) (b : Stab) : List Byte :=
  field16 c.yaw.spread ++ field16 c.pitch.spread ++ field32 b.yaw.bias ++ field32 b.pitch.bias

/-- The mean of 4,000 codes times 256 (R89). -/
def meanBias (c : Collected) : Int := (((256 * c.sum + 2000) / 4000 : Nat) : Int)

/-- A calibration ends: the request completes, the record is cleared, the derived state is entered (R89,
R90). -/
def endCalibration (status : Status) (c : Calibration) (s : State) : State :=
  let s := complete c.slot status (calResult c s.stab) s
  let s := { s with stab := { s.stab with cal := none } }
  latch .stabState { s with stab := s.stab.enter s.stab.derived }

/-- The pitch sample of the 4,000th frame has been collected (R89). -/
def calibrationDone (c : Calibration) (s : State) : State :=
  if c.yaw.spread > 40 || c.pitch.spread > 40 then endCalibration .motion c s
  else
    endCalibration .ok c { s with stab := { s.stab with
      yaw := { s.stab.yaw with bias := meanBias c.yaw }
      pitch := { s.stab.pitch with bias := meanBias c.pitch } } }

/-- The pitch sample that comes next ends the calibration (R89). -/
def calibrationEndDue (s : State) : Bool :=
  s.stab.state == .calibrating && match s.stab.cal with
    | some c => decide (c.frames ≥ 4000)
    | none => false

/-- A gyro sample in CALIBRATING (R89). -/
def collectSample (a : Axis) (code : Nat) (s : State) : State :=
  let s := { s with stab := s.stab.withAxis a { s.stab.axis a with last := some code } }
  match s.stab.cal with
  | none => s
  | some c =>
    if c.frames = 0 then s
    else
      let c := match a with
        | .yaw => { c with yaw := c.yaw.add code }
        | .pitch => { c with pitch := c.pitch.add code }
      let s := { s with stab := { s.stab with cal := some c } }
      if a = .pitch && c.frames ≥ 4000 then calibrationDone c s else s

/-- A gyro sample of an axis, handled by the state (R78). -/
def gyroSample (a : Axis) (code : Nat) (s : State) : State :=
  let old := s.stab.axis a
  match s.stab.state with
  | .off | .held => { s with stab := s.stab.withAxis a { old with last := some code } }
  | .settling =>
    { s with stab := s.stab.withAxis a { old with last := some code, bias := trackBias old.bias code } }
  | .active | .panning => computeSample a code s
  | .calibrating => collectSample a code s

/-- A sample that puts its axis into pan (R86). -/
def entersPan (a : Axis) (code : Nat) (s : State) : Bool :=
  s.stab.state.computes && !(s.stab.axis a).inPan && (computeAxis s.stab code (s.stab.axis a)).inPan

/-- A sample that takes its axis out of pan (R86). -/
def leavesPan (a : Axis) (code : Nat) (s : State) : Bool :=
  s.stab.state.computes && (s.stab.axis a).inPan && !(computeAxis s.stab code (s.stab.axis a)).inPan

/-! ### Requests (R89, R91, R92) -/

/-- STAB_CALIBRATE is taken (R89). -/
def stabCalibrateTaken (slot : Fin 32) (s : State) : State :=
  let fresh : Collected := ⟨0, 4095, 0⟩
  let s := keepRunning slot s
  latch .stabState { s with stab :=
    { s.stab.enter .calibrating with cal := some ⟨slot, 0, fresh, fresh⟩ } }

/-- STAB_CALIBRATE (R89). -/
def execStabCalibrate (slot : Fin 32) (s : State) : Host.Outcome State Fault Refusal :=
  .next (serve slot (.stabCalibrate slot) (stabCalibrateTaken slot) s)

/-- A calibration is cancelled (R90). -/
def cancelCalibration (s : State) : State :=
  match s.stab.cal with
  | some c => endCalibration .cancelled c s
  | none => s

/-- The mode of a code (R91). -/
def StabMode.ofCode : Nat → Option StabMode
  | 0 => some .off | 1 => some .on | 2 => some .held | _ => none

/-- STAB_MODE is taken (R91). -/
def stabModeTaken (slot : Fin 32) (mode : Byte) (s : State) : State :=
  match StabMode.ofCode mode.toNat with
  | none => complete slot .badValue [byteOf s.stab.state.code] s
  | some m =>
    let s := setStabMode m s
    complete slot .ok [byteOf s.stab.state.code] s

/-- STAB_MODE (R91). -/
def execStabMode (slot : Fin 32) (mode : Byte) (s : State) : Host.Outcome State Fault Refusal :=
  .next (serve slot (.stabMode slot mode) (stabModeTaken slot mode) s)

/-- A drive above the stroke limit is brought to it, with its accumulator (R92). -/
def reclampAxis (stroke focal : Nat) (r : StabAxis) : StabAxis :=
  if r.drive.natAbs > stroke then
    { r with drive := signOf r.drive * stroke, acc := -(signOf r.drive * strokeAngle stroke focal) }
  else r

/-- STAB_PARAMS is taken (R92). -/
def stabParamsTaken (slot : Fin 32) (leak panLeak : BitVec 16) (deadBand : Byte)
    (panThreshold stroke : BitVec 16) (s : State) : State :=
  let l := clampNat 1 8191 leak.toNat
  let lp := clampNat 1 8191 panLeak.toNat
  let db := min deadBand.toNat 15
  let pt := clampNat 50 4095 panThreshold.toNat
  let st := clampNat 100 2000 stroke.toNat
  let adjusted := l != leak.toNat || lp != panLeak.toNat || db != deadBand.toNat || pt != panThreshold.toNat
    || st != stroke.toNat
  let b := { s.stab with leak := l, panLeak := lp, deadBand := db, panThreshold := pt, stroke := st }
  let b := if b.state.computes then
      { b with yaw := reclampAxis st b.focal b.yaw, pitch := reclampAxis st b.focal b.pitch }
    else b
  complete slot (okStatus adjusted) (field16 l ++ field16 lp ++ [byteOf db] ++ field16 pt ++ field16 st)
    { s with stab := b }

/-- STAB_PARAMS (R92). -/
def execStabParams (slot : Fin 32) (leak panLeak : BitVec 16) (deadBand : Byte)
    (panThreshold stroke : BitVec 16) (s : State) : Host.Outcome State Fault Refusal :=
  .next (serve slot (.stabParams slot leak panLeak deadBand panThreshold stroke)
    (stabParamsTaken slot leak panLeak deadBand panThreshold stroke) s)

end Sys2Proof.Machine
end

