-- ==== Sys2Proof/Machine/Power.lean ====
section
/-! DEFINITION. The power monitor (R31 to R35). -/

namespace Sys2Proof.Machine

/-- The battery state after an evaluation with the filter at `f` (R33). -/
def nextBattery (b : BatteryState) (f low empty : Nat) : BatteryState :=
  match b with
  | .normal => if f < empty then .empty else if f < low then .low else .normal
  | .low => if f < empty then .empty else if f < low + 300 then .low else .normal
  | .empty => if f < empty + 300 then .empty else if f < low + 300 then .low else .normal

/-- The power state that a battery state stands for. -/
def batteryPower : BatteryState → PowerState
  | .normal => .normal | .low => .low | .empty => .empty

/-- The power state that follows from the filter, the DC flag and the battery state (R33). -/
def Power.derived (p : Power) : PowerState :=
  if p.filter.isNone then .normal else if p.dc then .dc else batteryPower p.battery

/-- A power-state notice goes to the record engine, the stabiliser and the lens drive (R33). -/
def powerNotice (old new : PowerState) (s : State) : State :=
  deriveApplied (stabPowerNotice old new (recPowerNotice old new s))

/-- The power state is derived again, with the effects of a change (R33). -/
def derivePower (s : State) : State :=
  let old := s.power.state
  let new := s.power.derived
  if old = new then s
  else
    let s := { s with power := { s.power with state := new } }
    powerNotice old new (latchIf (new == .empty) .batteryEmpty (latchIf (new == .low) .batteryLow s))

/-- The battery state is evaluated while the filter is present, and the power state after it (R33). -/
def evalBattery (s : State) : State :=
  match s.power.filter with
  | none => s
  | some f =>
    derivePower { s with power := { s.power with
      battery := nextBattery s.power.battery f s.power.low s.power.empty } }

/-- The samples with a new one, at most eight (R31). -/
def pushSample (mv : Nat) (samples : List Nat) : List Nat :=
  if samples.length ≥ 8 then samples.tail ++ [mv] else samples ++ [mv]

/-- A battery conversion (R31). -/
def batterySample (code : Nat) (s : State) : State :=
  let samples := pushSample (code * 5) s.power.samples
  let filter := if samples.length ≥ 8 then some (samples.sum / 8) else s.power.filter
  evalBattery { s with power := { s.power with samples := samples, filter := filter } }

/-- The DC-present flag after a sample (R32). -/
def dcAfter (dc : Bool) (mv : Nat) : Bool := if dc then decide (mv ≥ 9700) else decide (mv > 10000)

/-- A DC input conversion (R32). -/
def dcSample (code : Nat) (s : State) : State :=
  derivePower { s with power := { s.power with dc := dcAfter s.power.dc (code * 5) } }

/-- Thresholds that SET_POWER_LIMITS accepts (R35). -/
def limitsValid (low empty : Nat) : Bool :=
  decide (6300 ≤ low) && decide (low ≤ 16500) && decide (6000 ≤ empty) && decide (empty ≤ 16200)
    && decide (low > empty + 300)

/-- SET_POWER_LIMITS is taken (R35). -/
def setPowerLimitsTaken (slot : Fin 32) (low empty : BitVec 16) (s : State) : State :=
  let answer (status : Status) (s : State) := complete slot status [byteOf s.power.state.code] s
  if limitsValid low.toNat empty.toNat then
    answer .ok (evalBattery { s with power := { s.power with low := low.toNat, empty := empty.toNat } })
  else answer .badValue s

/-- SET_POWER_LIMITS (R35). -/
def execSetPowerLimits (slot : Fin 32) (low empty : BitVec 16) (s : State) :
    Host.Outcome State Fault Refusal :=
  .next (serve slot (.setPowerLimits slot low empty) (setPowerLimitsTaken slot low empty) s)

end Sys2Proof.Machine
end

