-- ==== Sys2Proof/Machine/Slots.lean ====
section
/-! DEFINITION. The request slot unit (Chapter 11): registers, posting and release, the fetch unit, the lanes,
completion and CANCEL. -/

namespace Sys2Proof.Machine

/-- The state with the slot unit changed by `f`. -/
def updateUnit (f : SlotUnit → SlotUnit) (s : State) : State := { s with unit := f s.unit }

/-- The state of a slot. -/
def slotState (n : Fin 32) (s : State) : SlotState := s.unit.slots[n].state

/-- Slot misuse: SLOT_MISUSE latches and the counter goes up (R177, R178, R182). -/
def slotMisused (s : State) : State :=
  latch .slotMisuse (updateUnit (fun u => { u with misuse := countUp u.misuse }) s)

/-- A slot becomes FREE. -/
def freeSlot (n : Fin 32) (s : State) : State :=
  updateUnit (fun u => { u with slots := put u.slots n Slot.free }) s

/-- All 32 slots are FREE (R177). -/
def allFree (u : SlotUnit) : Bool := (List.finRange 32).all fun n => u.slots[n].state == .free

/-! ### Registers (R176) -/

/-- The slots whose state satisfies `p`, as register bits. -/
def slotBits (p : SlotState → Bool) (u : SlotUnit) : BusWord :=
  (List.finRange 32).foldl (fun acc n => if p u.slots[n].state then acc ||| slotMask n else acc) 0

/-- What a read of CONTROL returns: RESET reads 0 (R176, section 11.6). -/
def controlValue (u : SlotUnit) : BusWord :=
  BitVec.ofNat 32 (bit u.enable + u.alertLevel % 16 * 16 + bit u.doneAlert * 256)

/-- What a read at a register offset returns (R176, section 11.6); none for an offset that the window does not
answer. The reads that also clear are DONE_READ and EVENTS_READ. -/
def registerRead (offset : Nat) (s : State) : Option BusWord :=
  match offset with
  | 0x00 => some 0x4E0C5001
  | 0x04 => some (controlValue s.unit)
  | 0x08 => some s.unit.workBase
  | 0x0C => some (slotBits (fun st => st != .free) s.unit)
  | 0x10 => some s.unit.done
  | 0x14 => some (slotBits (fun st => st == .done) s.unit)
  | 0x18 => some (s.events.latches.setWidth 32)
  | _ => none

/-- The fields of a CONTROL write with RESET 0 are taken, and ALERT evaluated again (R176). -/
def controlTaken (value : BusWord) (s : State) : State :=
  evalAlert (updateUnit (fun u => { u with
    enable := value.getLsbD 0, alertLevel := (value.extractLsb' 4 4).toNat, doneAlert := value.getLsbD 8 }) s)

/-- A WORK_BASE write (R177). -/
def workBaseTaken (value : BusWord) (s : State) : State :=
  if allFree s.unit then updateUnit (fun u => { u with workBase := value &&& 0xFFFF0000 }) s
  else slotMisused s

/-- WORK_BASE_WRITE (R177). -/
def execWorkBaseWrite (value : BusWord) (s : State) : Host.Outcome State Fault Refusal :=
  .next (workBaseTaken value s)

/-- REGISTER_WRITE_NO_EFFECT (R176): a write to ID, DONE or EVENTS. -/
def execRegisterWriteNoEffect (_register : FixedRegister) (_value : BusWord) (s : State) :
    Host.Outcome State Fault Refusal := .next s

/-- A read of DONE returns the latch and clears it (R181). -/
def doneTaken (s : State) : State :=
  evalAlert { s with busRead := s.unit.done, unit := { s.unit with done := 0 } }

/-- DONE_READ (R181). -/
def execDoneRead (s : State) : Host.Outcome State Fault Refusal := .next (doneTaken s)

/-- A read of EVENTS returns the latches and clears them (R172). -/
def eventsTaken (s : State) : State :=
  evalAlert { s with
    busRead := s.events.latches.setWidth 32, events := { s.events with latches := 0 } }

/-- EVENTS_READ (R172). -/
def execEventsRead (s : State) : Host.Outcome State Fault Refusal := .next (eventsTaken s)

/-- The slots named by the bits of a register write, each handled in ascending order (R178, R182). -/
def eachSlot (value : BusWord) (f : Fin 32 → State → State) (s : State) : State :=
  (List.finRange 32).foldl (fun s n => if value.getLsbD n.val then f n s else s) s

/-- A bit of a POST write (R178). -/
def postSlot (n : Fin 32) (s : State) : State :=
  match slotState n s with
  | .free => updateUnit (fun u => { u with
      slots := put u.slots n ⟨.posted, none⟩, fetchQueue := u.fetchQueue ++ [n] }) s
  | .posted | .waiting | .started | .running | .completing | .done => slotMisused s

/-- POST_WRITE (R178). -/
def execPostWrite (value : BusWord) (s : State) : Host.Outcome State Fault Refusal :=
  .next (eachSlot value postSlot s)

/-- A slot leaves the fetch queue, the fetch in flight and the lane queues (R182). -/
def SlotUnit.withdraw (n : Fin 32) (u : SlotUnit) : SlotUnit :=
  { u with
    fetchQueue := u.fetchQueue.filter fun m => m != n
    fetching := if u.fetching = some n then none else u.fetching
    lanes := mapBank (fun (l : List (Fin 32)) => l.filter fun m => m != n) u.lanes }

/-- A bit of a RELEASE write (R182). -/
def releaseSlot (n : Fin 32) (s : State) : State :=
  match slotState n s with
  | .done => clearDone n (freeSlot n s)
  | .posted | .waiting => freeSlot n (updateUnit (SlotUnit.withdraw n) s)
  | .started | .running | .completing | .free => slotMisused s

/-- RELEASE_WRITE (R182). -/
def execReleaseWrite (value : BusWord) (s : State) : Host.Outcome State Fault Refusal :=
  .next (eachSlot value releaseSlot s)

/-! ### Fetch (R179) -/

/-- A fetch can start: ENABLE is 1, the queue is not empty and no fetch is in flight (R179). -/
def fetchDue (s : State) : Bool := s.unit.enable && !s.unit.fetchQueue.isEmpty && s.unit.fetching.isNone

/-- A fetch starts (R179). -/
def fetchStarts (s : State) : State :=
  if fetchDue s then
    match s.unit.fetchQueue with
    | n :: rest => updateUnit (fun u => { u with fetchQueue := rest, fetching := some n }) s
    | [] => s
  else s

/-- FETCH_START (R179). -/
def execFetchStart (s : State) : Host.Outcome State Fault Refusal := .next (fetchStarts s)

/-- A slot's request is in progress: started, and its completion not yet written (R180). -/
def SlotState.inProgress : SlotState → Bool
  | .started => true | .running => true | .completing => true
  | .free => false | .posted => false | .waiting => false | .done => false

/-- Some request of a lane is in progress (R180). -/
def laneBusy (lane : LaneId) (u : SlotUnit) : Bool :=
  (List.finRange 32).any fun n => u.slots[n].state.inProgress && slotLane n u == some lane

/-- A lane starts a request as it joins the queue: LENS and ESSENCE always, the others when they are idle
(R180). -/
def startsAtOnce (lane : LaneId) (u : SlotUnit) : Bool :=
  !laneIsSerial lane || (!laneBusy lane u && u.lanes[laneIndex lane].isEmpty)

/-- The fetch order with a slot that is taken now (R180). -/
def SlotUnit.taken (n : Fin 32) (u : SlotUnit) : SlotUnit :=
  { u with order := (u.order.filter fun m => m != n) ++ [n] }

/-- A request that has passed its checks becomes TAKEN and joins its lane (R179, R180). -/
def joinLane (n : Fin 32) (i : Instr) (lane : LaneId) (s : State) : State :=
  let s := updateUnit (SlotUnit.taken n) s
  if startsAtOnce lane s.unit then updateUnit (fun u => { u with slots := put u.slots n ⟨.started, some i⟩ }) s
  else updateUnit (fun u => { u with
    slots := put u.slots n ⟨.waiting, some i⟩
    lanes := modify u.lanes (laneIndex lane) fun l => l ++ [n] }) s

/-- The slot becomes DONE with its DONE bit set (R181). -/
def slotDone (n : Fin 32) (s : State) : State :=
  setDone n (updateUnit (fun u => { u with slots := put u.slots n ⟨.done, none⟩ }) s)

/-- A slot's writes to the work area end: those made reach memory, and a bus error latches WORK_AREA_FAULT
(R179, R181). The 16-bit status, which comes last, is one write (log 53). -/
def slotWrites (writes : BusEnd) (cells : List Host.Cell) (s : State) : State :=
  latchIf (writes != .ok) .workAreaFault { s with mem := memWriteAll s.mem (BusEnd.made writes 2 cells) }

/-- A request that fails a check completes MALFORMED with a result length of 0 (R179, R181, log 9). -/
def malformed (n : Fin 32) (writes : BusEnd) (s : State) : State :=
  let c : Completion := ⟨n, s.unit.workBase, .malformed, [], none, true⟩
  slotDone n (slotWrites writes (completionCells (completionLabel c s) c) s)

/-- A bus error on the fetch read (R179, log 9). -/
def fetchFailed (n : Fin 32) (writes : BusEnd) (s : State) : State :=
  slotDone n (slotWrites writes (fetchErrorCells s.unit.workBase n) (latch .workAreaFault s))

/-- The fetch read of a slot ends (R179). -/
def fetchEnded (n : Fin 32) (read : FetchEnd) (writes : BusEnd) (s : State) : State :=
  match read with
  | .error => fetchFailed n writes s
  | .data kind length params =>
    match decodeRequest n kind length params with
    | none => malformed n writes s
    | some i =>
      match requestLane i with
      | some lane => joinLane n i lane s
      | none => s

/-- FETCH_END (R179): the end of the fetch in flight. -/
def execFetchEnd (read : FetchEnd) (writes : BusEnd) (s : State) : Host.Outcome State Fault Refusal :=
  .next (match s.unit.fetching with
    | some n => fetchEnded n read writes (updateUnit (fun u => { u with fetching := none }) s)
    | none => s)

/-! ### Lanes (R180) -/

/-- A lane can start its head request (R180). -/
def laneDue (lane : LaneId) (s : State) : Bool :=
  laneIsSerial lane && !laneBusy lane s.unit && !s.unit.lanes[laneIndex lane].isEmpty

/-- A lane starts its head request (R180). -/
def laneStarts (lane : LaneId) (s : State) : State :=
  if laneDue lane s then
    match s.unit.lanes[laneIndex lane] with
    | n :: rest => setSlotState n .started
        (updateUnit (fun u => { u with lanes := put u.lanes (laneIndex lane) rest }) s)
    | [] => s
  else s

/-- LANE_START (R180). -/
def execLaneStart (lane : LaneId) (s : State) : Host.Outcome State Fault Refusal := .next (laneStarts lane s)

/-! ### Completion (R181) -/

/-- A completion is written, with the label last delivered now or the one fixed for it (R19, R181); the writes of a completion that a controller reset has abandoned do not
make their slot DONE (R181, R184). -/
def completionWritten (writes : BusEnd) (s : State) : State :=
  match s.unit.completions with
  | c :: rest =>
    let cells := completionCells (completionLabel c s) c
    let s := slotWrites writes cells (updateUnit (fun u => { u with completions := rest }) s)
    if c.live then slotDone c.slot s else s
  | [] => s

/-- COMPLETION_WRITES_END (R181). -/
def execCompletionWritesEnd (writes : BusEnd) (s : State) : Host.Outcome State Fault Refusal :=
  .next (completionWritten writes s)

/-! ### CANCEL (R183) -/

/-- The code of a target's state in CANCEL's result (R183); a target that has ended, its completion writes
still in flight, is found DONE (log 40). -/
def SlotState.cancelCode : SlotState → Nat
  | .free => 0 | .posted => 1 | .waiting => 2 | .started => 3 | .running => 3 | .completing => 4 | .done => 4

/-- A waiting request is removed from its lane queue and completes CANCELLED, result length 0 (R183). -/
def cancelWaiting (n : Fin 32) (s : State) : State :=
  complete n .cancelled [] (updateUnit (fun u =>
    { u.withdraw n with slots := put u.slots n ⟨.running, none⟩ }) s)

/-- A cancellable request that its serving block has not yet taken completes CANCELLED with the results its
kind has (log 40). -/
def cancelStarted (n : Fin 32) (k : RequestKind) (s : State) : State :=
  match k with
  | .zoomMove | .zoomSpeed => complete n .cancelled (zoomResult s) s
  | .focusMove => complete n .cancelled (focusResult s) s
  | .irisSet => complete n .cancelled (irisResult s) s
  | .shotRecall => useFree 8 (complete n .cancelled (unreadResult s) s)
  | .stabCalibrate => complete n .cancelled (calResult ⟨n, 0, ⟨0, 4095, 0⟩, ⟨0, 4095, 0⟩⟩ s.stab) s
  | .getStatus | .setEventLevels | .setLines | .setVideoFormat | .setTc | .setGenlock | .setCue
  | .cancel | .setPowerLimits | .setScan | .setTcMode | .lensStop | .loadLensTables | .setTracking
  | .shotPush | .shotClear | .setShotPolicy | .stabMode | .stabParams | .recStart | .recStop
  | .setRecMode | .mark | .listClips | .formatCard | .clearHalt | .writeEssence | .audioConfig
  | .audioLevels | .setVfText | .setVfConfig => s

/-- A cancellable request that its serving block runs is ended by that block (R58, R73, R90, R183). -/
def cancelRunning (k : RequestKind) (s : State) : State :=
  match k with
  | .zoomMove | .zoomSpeed => stopHostZoom .cancelled s
  | .focusMove => stopHostFocus .cancelled s
  | .irisSet => stopHostIris .cancelled s
  | .shotRecall => cancelRecall s
  | .stabCalibrate => cancelCalibration s
  | .getStatus | .setEventLevels | .setLines | .setVideoFormat | .setTc | .setGenlock | .setCue
  | .cancel | .setPowerLimits | .setScan | .setTcMode | .lensStop | .loadLensTables | .setTracking
  | .shotPush | .shotClear | .setShotPolicy | .stabMode | .stabParams | .recStart | .recStop
  | .setRecMode | .mark | .listClips | .formatCard | .clearHalt | .writeEssence | .audioConfig
  | .audioLevels | .setVfText | .setVfConfig => s

/-- The kind of the request a slot holds. -/
def slotKind (n : Fin 32) (s : State) : Option RequestKind :=
  match s.unit.slots[n].request with
  | some i => requestKind i
  | none => none


/-- The action on a target below 32, with the CANCEL's status (R183, log 40). -/
def cancelTarget (n : Fin 32) (s : State) : Status × State :=
  match slotState n s with
  | .free | .posted | .completing | .done => (.badValue, s)
  | .waiting => (.ok, cancelWaiting n s)
  | .started =>
    match slotKind n s with
    | some k => if k.cancellable then (.ok, cancelStarted n k s) else (.busy, s)
    | none => (.busy, s)
  | .running =>
    match slotKind n s with
    | some k => if k.cancellable then (.ok, cancelRunning k s) else (.busy, s)
    | none => (.busy, s)

/-- CANCEL is taken (R183); its target's completion is written before its own. -/
def cancelTaken (slot : Fin 32) (target : Byte) (s : State) : State :=
  if h : target.toNat < 32 then
    let n : Fin 32 := ⟨target.toNat, h⟩
    let code := (slotState n s).cancelCode
    let r := cancelTarget n s
    complete slot r.1 [byteOf code] r.2
  else completeFree slot .badValue s

/-- CANCEL (R183). -/
def execCancel (slot : Fin 32) (target : Byte) (s : State) : Host.Outcome State Fault Refusal :=
  .next (serve slot (.cancel slot target) (cancelTaken slot target) s)

end Sys2Proof.Machine
end

