-- ==== Sys2Proof/Machine/Reset.lean ====
section
/-! DEFINITION. POWER_ON_RESET and CONTROLLER_RESET (R184): the value each block takes (R1, R20, R25, R31, R37,
R49, R54, R60, R69, R77, R94, R107, R109, R134, R145, R149, R165, R171, R176), then the initial level reports
(R20). CONTROL_WRITE stands here, since one with RESET 1 is a controller reset (R176). -/

namespace Sys2Proof.Machine

/-! ### Power-on reset -/

/-- The initial report of a detect line (R96). -/
def detectReport (c : CardSlot) (s : State) : State := if isDetected c s then beginMount c s else s

/-- Every block at its power-on value, with the line pins sampled at `pins`. Main memory is the host's, and
the model's own fields go on. -/
def powerOnValues (pins : BitVec 7) (s : State) : State where
  clock := Clock.powerOn
  lines := linesSampled pins
  scan := Scan.powerOn
  power := Power.powerOn
  zoom := Zoom.powerOn
  focus := Focus.powerOn
  iris := Iris.powerOn
  conflict := none
  track := Tracking.powerOn
  shots := Shots.powerOn
  stab := Stab.powerOn
  cardA := Card.powerOn
  cardB := Card.powerOn
  recorder := Recorder.powerOn
  audio := Audio.powerOn.kick
  vf := Viewfinder.powerOn
  cues := Vector.replicate 4 Cue.atReset
  events := Events.atReset
  unit := SlotUnit.powerOn
  mem := s.mem
  busRead := s.busRead
  freeCount := s.freeCount
  pending := s.pending

/-- The release of RESET: power-on values, then the initial level reports of the detect lines and of FOCUS_HOME
(R20, R50, R96). -/
def powerOnState (pins : BitVec 7) (s : State) : State :=
  let s := detectReport .b (detectReport .a (powerOnValues pins s))
  focusHomeReport s.lines[6].debounced s

/-- POWER_ON_RESET (R184, log 11). -/
def execPowerOnReset (pins : BitVec 7) (s : State) : Host.Outcome State Fault Refusal :=
  .next (powerOnState pins s)

/-! ### Controller reset: the value of each block -/

/-- R1: the format, the label and the running counter are kept; the frame in progress ends by the period P. -/
def Clock.controllerReset (c : Clock) : Clock :=
  let running := c.withPeriod c.rate.period
  { Clock.powerOn with
    rate := c.rate, drop := c.drop, period := running.period, counter := running.counter
    frameDue := running.frameDue, label := c.label, delivered := c.delivered }

/-- R20: each pin is sampled; the debounce times are the defaults. -/
def linesResampled (lines : Vector Line 7) : Vector Line 7 :=
  Vector.ofFn fun i => Line.sampled lines[i].raw defaultDebounce[i]

/-- R25: the frame in progress goes on; the next one uses code 5. -/
def Scan.controllerReset (c : Scan) : Scan :=
  { c with
    requested := 5, altIris := false, pointer := .battery, unconverted := Vector.replicate 4 0
    starved := Vector.replicate 4 false, starvations := 0 }

/-- R37: Z, the codes, the soft limits and the direction are kept; the duty is 0 at once (R47). Where a direction is
pending for the next PWM period, both it and the one in effect are kept, so the pin takes the pending one at that
period's start (DESIGN CHOICE, log 27). -/
def Zoom.controllerReset (z : Zoom) : Zoom :=
  { Zoom.powerOn with
    z := z.z, wide := z.wide, tele := z.tele, softMin := z.softMin, softMax := z.softMax
    dirTele := z.dirTele, dirPinTele := z.dirPinTele, pwmCount := z.pwmCount }

/-- R49: the near limit is kept. The stepper's outputs are kept too (DESIGN CHOICE, log 57). -/
def Focus.controllerReset (f : Focus) : Focus :=
  { Focus.powerOn with near := f.near, stepsOut := f.stepsOut, stepNear := f.stepNear }

/-- R54: the position of the retained Hall code is also the command and the target. -/
def Iris.controllerReset (hall : Option Nat) : Iris :=
  let p := hall.map fun code => code / 16
  { Iris.powerOn with pos := p, command := p, target := p }

/-- R60: the tables are kept, and the focal length follows from the retained Z. -/
def Tracking.controllerReset (z : Option Nat) (t : Tracking) : Tracking :=
  { Tracking.powerOn with
    focal := t.focal, table := t.table
    focalLength := match z with
      | some z => focalLengthAt t.focal z
      | none => t.focal.getD 0 0 }

/-- R69: a spill write in flight is let finish, and its outcome is not observed; a spill read is dropped with its
recall (log 43). -/
def Shots.controllerReset (h : Shots) : Shots :=
  { Shots.powerOn with transfers := h.orphan.filter fun t => t.entry.isSome }

/-- R77: the bias and the last code are kept. -/
def StabAxis.controllerReset (r : StabAxis) : StabAxis :=
  { StabAxis.powerOn with bias := r.bias, last := r.last }

/-- R77: the focal length comes from the tracking block. -/
def Stab.controllerReset (focal : Nat) (b : Stab) : Stab :=
  { Stab.powerOn with
    focal := focal, yaw := b.yaw.controllerReset, pitch := b.pitch.controllerReset }

/-- R107: an operation in flight is let finish with its answer not observed; a present card is MOUNTING, and
its HEADER_READ starts at once when the link is free. -/
def Card.controllerReset (detected : Bool) (k : Card) : Card :=
  let k' := { Card.powerOn with
    state := if detected then .mounting else .empty
    op := k.op.map fun o => { o with observed := false } }
  if detected && k'.op.isNone then k'.start .headerRead 1 else k'

/-- R134, R145: the pot gains come from the retained pot values, and a write in flight is let finish. -/
def Audio.controllerReset (pot1 pot2 : Option Nat) (a : Audio) : Audio :=
  { Audio.powerOn with
    inFlight := a.inFlight
    channels := audioChannelsAtReset (pot1.map fun c => c / 32) (pot2.map fun c => c / 32) }.kick

/-- R149: the target answers nothing more of a transaction in progress. -/
def Viewfinder.controllerReset (v : Viewfinder) : Viewfinder :=
  { Viewfinder.powerOn with target := .ignore, sentByte := v.sentByte, ack := v.ack }

/-- R184: WORK_BASE is kept, and a completion whose writes are in flight is let finish on the bus, with the label
that is last delivered before the reset. -/
def SlotUnit.controllerReset (label : Label) (u : SlotUnit) : SlotUnit :=
  { SlotUnit.powerOn with
    workBase := u.workBase
    completions := (u.completions.take 1).map fun c =>
      { c with live := false, label := some (c.label.getD label) } }

/-- Every block at its controller-reset value; ALERT, with no latch and no DONE bit set, is released. -/
def controllerResetValues (s : State) : State :=
  let lines := linesResampled s.lines
  let track := s.track.controllerReset s.zoom.z
  { clock := s.clock.controllerReset
    lines := lines
    scan := s.scan.controllerReset
    power := Power.powerOn
    zoom := s.zoom.controllerReset
    focus := s.focus.controllerReset
    iris := Iris.controllerReset s.scan.last[channelIndex .irisHall]
    conflict := none
    track := track
    shots := s.shots.controllerReset
    stab := s.stab.controllerReset track.focalLength
    cardA := s.cardA.controllerReset lines[0].debounced
    cardB := s.cardB.controllerReset lines[1].debounced
    recorder := Recorder.powerOn
    audio := s.audio.controllerReset s.scan.last[channelIndex .pot1] s.scan.last[channelIndex .pot2]
    vf := s.vf.controllerReset
    cues := Vector.replicate 4 Cue.atReset
    events := Events.atReset
    unit := s.unit.controllerReset (deliveredLabel s)
    mem := s.mem
    busRead := s.busRead
    freeCount := s.freeCount
    pending := s.pending }

/-- A controller reset (R184), with the initial report of FOCUS_HOME (R50). -/
def controllerResets (s : State) : State :=
  let s := controllerResetValues s
  focusHomeReport s.lines[6].debounced s

/-- CONTROLLER_RESET (R184): a CONTROL write with RESET 1. -/
def execControllerReset (s : State) : Host.Outcome State Fault Refusal := .next (controllerResets s)

/-- CONTROL_WRITE (R176); a value with RESET 1 is a controller reset, and its other fields are not taken
(log 30). -/
def execControlWrite (value : BusWord) (s : State) : Host.Outcome State Fault Refusal :=
  .next (if value.getLsbD 1 then controllerResets s else controlTaken value s)

end Sys2Proof.Machine
end

