-- ==== Sys2Proof/Machine/Scan.lean ====
section
/-! DEFINITION. The converter scan (R25 to R30): scan frame starts, conversions and SET_SCAN, with the
commands that name a particular occurrence of them. -/

namespace Sys2Proof.Machine

/-! ### Scan frame starts (R26, R27, R29) -/

/-- A class C channel was granted, and so converted, in the frame just ended (R29, log 14). -/
def Scan.converted (i : Fin 4) (c : Scan) : Bool := c.grants.contains (classCChannel (classCAt i.val))

/-- A class C channel becomes starved at the scan frame start (R29). -/
def Scan.starves (i : Fin 4) (c : Scan) : Bool := !c.converted i && c.unconverted[i] == 63

/-- The number of channels that become starved. -/
def Scan.starving (c : Scan) : Nat := ((List.finRange 4).filter fun i => c.starves i).length

/-- The starvation state after the frame just ended (R29). -/
def Scan.starvation (c : Scan) : Scan :=
  { c with
    unconverted := Vector.ofFn fun i => if c.converted i then 0 else min (c.unconverted[i] + 1) 64
    starved := Vector.ofFn fun i => if c.converted i then false else c.starved[i] || c.starves i
    starvations := min (c.starvations + c.starving) 65535 }

/-- The grants of the new frame at the code requested (R26, R27). -/
def Scan.grantFrame (c : Scan) : Scan :=
  let slots := slotsPerFrame c.requested
  let n := min (slots - 4) 4
  { c with
    code := c.requested
    grants := frameGrants c.requested c.altIris c.pointer
    altIris := if slots ≥ 4 then c.altIris else !c.altIris
    pointer := if n = 0 then c.pointer else classCAt ((classCIndex c.pointer).val + n)
    timer := 0
    due := false }

/-- A scan frame starts: starvation, grants, then the marks to the lens drive and the stabiliser (R26, R27,
R29, R48, R79, R89). -/
def scanFrameStarts (s : State) : State :=
  let starves := decide (s.scan.starving > 0)
  let s := latchIf starves .diag { s with scan := s.scan.starvation.grantFrame }
  stabScan (stallScan s)

/-- SCAN_FRAME_START (R26, R27). -/
def execScanFrameStart (s : State) : Host.Outcome State Fault Refusal := .next (scanFrameStarts s)

/-- CHANNEL_STARVED (R29): the scan frame start at which the channel becomes starved (log 4). -/
def execChannelStarved (channel : ClassC) (s : State) : Host.Outcome State Fault Refusal :=
  .next (if s.scan.starves (classCIndex channel) then scanFrameStarts s else s)

/-- ZOOM_STALL (R48): the scan frame start at which the stall count reaches 200 (log 4). -/
def execZoomStall (s : State) : Host.Outcome State Fault Refusal :=
  .next (if zoomStallDue s then scanFrameStarts s else s)

/-- STAB_SETTLED (R79): the 200th scan frame start in SETTLING (log 4). -/
def execStabSettled (s : State) : Host.Outcome State Fault Refusal :=
  .next (if settlingDue s then scanFrameStarts s else s)

/-! ### Conversions (R28) -/

/-- The code of a channel handed to its consumer (R28). -/
def handCode (channel : Channel) (code : Nat) (s : State) : State :=
  match channel with
  | .yawGyro => gyroSample .yaw code s
  | .pitchGyro => gyroSample .pitch code s
  | .zoomPos => zoomSample code s
  | .irisHall => irisSample code s
  | .battery => batterySample code s
  | .dcInput => dcSample code s
  | .pot1 => potSample 0 code s
  | .pot2 => potSample 1 code s

/-- A channel is granted in the scan frame in progress (log 14). -/
def isGranted (channel : Channel) (s : State) : Bool := s.scan.grants.contains channel

/-- A conversion completes (R28). -/
def converted (channel : Channel) (code : BitVec 12) (s : State) : State :=
  if isGranted channel s then
    handCode channel code.toNat
      { s with scan := { s.scan with last := put s.scan.last (channelIndex channel) (some code.toNat) } }
  else s

/-- CONVERSION_COMPLETE (R28). -/
def execConversionComplete (channel : Channel) (code : BitVec 12) (s : State) :
    Host.Outcome State Fault Refusal :=
  .next (converted channel code s)

/-- The gyro channel of an axis. -/
def gyroChannel : Axis → Channel
  | .yaw => .yawGyro | .pitch => .pitchGyro

/-- PAN_ENTRY (R86): the gyro sample that puts the axis into pan (log 4). -/
def execPanEntry (axis : Axis) (code : BitVec 12) (s : State) : Host.Outcome State Fault Refusal :=
  .next (if entersPan axis code.toNat s then converted (gyroChannel axis) code s else s)

/-- PAN_EXIT (R86): the gyro sample that takes the axis out of pan (log 4). -/
def execPanExit (axis : Axis) (code : BitVec 12) (s : State) : Host.Outcome State Fault Refusal :=
  .next (if leavesPan axis code.toNat s then converted (gyroChannel axis) code s else s)

/-- CALIBRATION_END (R89): the pitch sample of the 4,000th collection frame (log 4). -/
def execCalibrationEnd (code : BitVec 12) (s : State) : Host.Outcome State Fault Refusal :=
  .next (if calibrationEndDue s then converted .pitchGyro code s else s)

/-! ### SET_SCAN (R30) -/

/-- SET_SCAN is taken (R30). -/
def setScanTaken (slot : Fin 32) (code : Byte) (s : State) : State :=
  let k := clampNat 3 7 code.toNat
  complete slot (okStatus (k != code.toNat)) [byteOf k] { s with scan := { s.scan with requested := k } }

/-- SET_SCAN (R30). -/
def execSetScan (slot : Fin 32) (code : Byte) (s : State) : Host.Outcome State Fault Refusal :=
  .next (serve slot (.setScan slot code) (setScanTaken slot code) s)

end Sys2Proof.Machine
end

