-- ==== Sys2Proof/Machine/Snapshot.lean ====
section
/-! DEFINITION. The status snapshot of GET_STATUS (R175, section 11.6) and SET_EVENT_LEVELS (R174). -/

namespace Sys2Proof.Machine

/-! ### The groups of the snapshot, in byte order (section 11.6) -/

/-- The frames of the open clip, and its number; 0 where no clip is OPEN or CLOSING (R175). -/
def openNumbers (s : State) : Nat × Nat :=
  match openClip s with
  | some k => (k.number, k.frames)
  | none => (0, 0)

/-- Bytes 0–12: recording. -/
def snapshotRecording (s : State) : List Byte :=
  let r := s.recorder
  let clip := openNumbers s
  [byteOf r.state.code, packed [(bit r.mirror, 0), (cardCode r.preferred, 1)]]
    ++ field16 clip.1 ++ field24 clip.2 ++ field16 r.limit ++ field16 r.bitrate
    ++ field16 (min (totalFrames r.held) 65535 : Nat)

/-- Bytes 13–31 and 32–50: a card slot. -/
def snapshotCard (k : Card) : List Byte :=
  byteOf k.state.code :: (field24 k.capacity ++ field24 k.committed ++ field24 k.reserved ++ field24 k.free
    ++ field16 k.indexCount ++ field16 k.lastClip ++ field16 k.queue.length)

/-- Bytes 51–55: label and clock settings. -/
def snapshotTime (c : Clock) : List Byte :=
  labelBytes c.label ++ [packed [(c.rate.code, 0), (bit c.drop, 3), (bit (c.mode == .recRun), 4),
    (bit c.genlock, 5), (c.lock.code, 6)]]

/-- Bytes 56–70: lens. An absent or undefined position is 0 (R175). -/
def snapshotLens (s : State) : List Byte :=
  field16 (s.zoom.z.getD 0) ++ [byteOf s.zoom.applied,
      packed [(s.focus.state.code, 0), (bit s.track.on, 3), (bit s.track.table.isSome, 4),
        (bit s.shots.refuse, 5)]]
    ++ field16 (s.focus.pos.getD 0) ++ [byteOf (s.iris.pos.getD 0), byteOf (s.iris.target.getD 0)]
    ++ field24 s.track.focalLength ++ field16 s.track.d
    ++ [byteOf (s.shots.banks.length + s.shots.spill : Nat), byteOf s.shots.spill]

/-- Bytes 71–90: stabiliser. -/
def snapshotStab (b : Stab) : List Byte :=
  [packed [(b.state.code, 0), (b.mode.code, 3)],
   packed [(b.deadBand, 0), (bit b.yaw.inPan, 4), (bit b.yaw.saturated, 5), (bit b.pitch.inPan, 6),
     (bit b.pitch.saturated, 7)]]
    ++ field16 b.yaw.drive ++ field24 b.yaw.bias ++ field16 b.pitch.drive ++ field24 b.pitch.bias
    ++ field16 b.leak ++ field16 b.panLeak ++ field16 b.panThreshold ++ field16 b.stroke

/-- A level negated and capped at 255. -/
def negatedLevel (level : Int) : Byte := byteOf (min (-level) 255)

/-- Six bytes of 91–114: an audio channel. -/
def snapshotChannel (c : AudioChannel) : List Byte :=
  [packed [(c.source.code, 0), (bit c.phantom, 2), (c.mode.code, 3), (bit c.overFlag, 5)],
   byteOf c.hostGain, byteOf c.applied, byteOf c.reduction, negatedLevel c.level, negatedLevel c.held]

/-- Bytes 91–122: audio. -/
def snapshotAudio (a : Audio) : List Byte :=
  a.channels.toList.flatMap snapshotChannel
    ++ [byteOf (bit a.lost), byteOf a.holdTime] ++ field16 a.overThreshold ++ field16 a.limitThreshold
    ++ [byteOf (-a.target), byteOf a.ceiling]

/-- Bytes 123–125: power state, divider code, battery filter (absent: 0). -/
def snapshotPower (s : State) : List Byte :=
  packed [(s.power.state.code, 0), (s.scan.code, 4)] :: field16 (s.power.filter.getD 0)

/-- Bits of the seven lines, line n at bit n. -/
def lineBits (f : Line → Bool) (lines : Vector Line 7) : Byte :=
  packed ((List.finRange 7).map fun i => (bit (f lines[i]), i.val))

/-- Bytes 126–148: lines. The flag of a line-edge record is 1 for FALL. -/
def snapshotLines (lines : Vector Line 7) : List Byte :=
  [lineBits (fun (l : Line) => l.raw) lines, lineBits (fun (l : Line) => l.debounced) lines]
    ++ lines.toList.flatMap (fun (l : Line) => stampBytes (l.edge.map fun e => (e.stamp, !e.rising)))

/-- The 32-bit value of a cue (R170). -/
def cueValueBytes (source : CueSource) : List Byte :=
  match source with
  | .tc l => labelBytes l
  | .zoom v => field32 v
  | .focus v => field32 v
  | .clipFrames v => field32 v

/-- Nine bytes of 149–184: a cue channel. -/
def snapshotCue (c : Cue) : List Byte :=
  [packed [(bit c.enable, 0), (c.source.code, 1), (c.condition.code, 3), (bit !c.once, 5), (bit c.taken, 6)],
   packed [(c.action.code, 0), (bit c.mask.hours, 4), (bit c.mask.minutes, 5), (bit c.mask.seconds, 6),
     (bit c.mask.frames, 7)]]
    ++ cueValueBytes c.source ++ stampBytes (c.lastFired.map fun st => (st, false))

/-- Bytes 185–189: the conflict record; the axis and the source of an absent record are 0 (log 36). -/
def snapshotConflict (c : Option Conflict) : List Byte :=
  match c with
  | some r => [packed [(r.axis.code, 0), (1, 7)], byteOf r.source] ++ stampBytes (some (r.stamp, false))
  | none => [0, 0] ++ stampBytes none

/-- A panel key record; an entry without a record has key 0 and an absent label (log 36). -/
def panelKeyBytes (k : Option PanelKey) : List Byte :=
  match k with
  | some r => r.key :: stampBytes (some (r.stamp, r.pressed))
  | none => 0 :: stampBytes none

/-- Bytes 190–223: presence, drop count and the panel keys drained. -/
def snapshotKeys (v : Viewfinder) : List Byte :=
  [packed [(v.keys.length, 0), (bit v.present, 7)], byteOf v.drops]
    ++ (List.range 8).flatMap fun i => panelKeyBytes v.keys[i]?

/-- Bytes 224–235: the counters. -/
def snapshotCounters (s : State) : List Byte :=
  field16 s.vf.overruns ++ field16 s.vf.errors ++ field16 s.clock.glitches ++ field16 s.clock.mismatches
    ++ field16 s.scan.starvations ++ field16 s.unit.misuse

/-- The 236 bytes of the status snapshot (R175, section 11.6). -/
def snapshot (s : State) : List Byte :=
  snapshotRecording s ++ snapshotCard s.cardA ++ snapshotCard s.cardB ++ snapshotTime s.clock
    ++ snapshotLens s ++ snapshotStab s.stab ++ snapshotAudio s.audio ++ snapshotPower s
    ++ snapshotLines s.lines ++ s.cues.toList.flatMap snapshotCue ++ snapshotConflict s.conflict
    ++ snapshotKeys s.vf ++ snapshotCounters s

/-! ### GET_STATUS (R175) -/

/-- GET_STATUS is taken: the snapshot, and the panel key queue and drop count drained (R175). -/
def getStatusTaken (slot : Fin 32) (s : State) : State :=
  complete slot .ok (snapshot s) { s with vf := { s.vf with keys := [], drops := 0 } }

/-- GET_STATUS (R175). -/
def execGetStatus (slot : Fin 32) (s : State) : Host.Outcome State Fault Refusal :=
  .next (serve slot (.getStatus slot) (getStatusTaken slot) s)

/-! ### SET_EVENT_LEVELS (R174) -/

/-- The levels that a list of parameter bytes sets; a class beyond the list keeps its level (R174). -/
def levelsOf (levels : List Byte) (old : Vector Nat 25) : Vector Nat 25 :=
  Vector.ofFn fun i => match levels[i.val]? with
    | some b => min b.toNat 15
    | none => old[i]

/-- SET_EVENT_LEVELS is taken (R174). -/
def setEventLevelsTaken (slot : Fin 32) (levels : List Byte) (s : State) : State :=
  let adjusted := levels.any fun b => decide (b.toNat > 15)
  let new := levelsOf levels s.events.levels
  complete slot (okStatus adjusted) (new.toList.map fun (n : Nat) => byteOf n)
    (evalAlert { s with events := { s.events with levels := new } })

/-- SET_EVENT_LEVELS (R174). -/
def execSetEventLevels (slot : Fin 32) (levels : List Byte) (s : State) : Host.Outcome State Fault Refusal :=
  .next (serve slot (.setEventLevels slot levels) (setEventLevelsTaken slot levels) s)

end Sys2Proof.Machine
end

