-- ==== Sys2Proof/Machine/Viewfinder.lean ====
section
/-! DEFINITION. The viewfinder link and operator controls (Chapter 9): the link target, the control FIFO, the
decoder, the control records, the local holds and the presence. -/

namespace Sys2Proof.Machine

/-- The state with the viewfinder block changed by `f`. -/
def updateVf (f : Viewfinder → Viewfinder) (s : State) : State := { s with vf := f s.vf }

/-! ### Records (R154 to R157, section 11.6) -/

/-- The number of bytes of a record of a type, type byte included; none for an unknown type (R153). -/
def recordLength : Nat → Option Nat
  | 1 => some 2 | 2 => some 2 | 3 => some 3 | 4 => some 2 | 5 => some 3 | 6 => some 3 | _ => none

/-- A decoder error is counted (R153). -/
def decoderError (s : State) : State := updateVf (fun v => { v with errors := countUp v.errors }) s

/-- A POINTER record (R154). -/
def pointerRecord (offset : Nat) (s : State) : State := updateVf (fun v => { v with pointer := min offset 63 }) s

/-- The zoom hold after a rocker value (R154). -/
def ZoomHold.after (v : Int) (h : ZoomHold) : ZoomHold :=
  match h with
  | .none => if v = 0 then .none else .held
  | .held => if v = 0 then .timing holdTicks else .held
  | .timing left => if v = 0 then .timing left else .held

/-- A ROCKER record (R154). -/
def rockerRecord (value : Byte) (s : State) : State :=
  let v := max (-127) value.toInt
  rockerTaken v (updateVf (fun f => { f with rocker := v, zoomHold := f.zoomHold.after v }) s)

/-- A FOCUS_DELTA record (R155). -/
def focusDeltaRecord (delta : BitVec 16) (s : State) : State :=
  let d := clampInt (-8191) 8191 delta.toInt
  if d = 0 then s else focusDeltaTaken d (updateVf (fun v => { v with focusHold := some holdTicks }) s)

/-- An IRIS_DELTA record (R155). -/
def irisDeltaRecord (delta : Byte) (s : State) : State :=
  if delta.toInt = 0 then s
  else irisDeltaTaken delta.toInt (updateVf (fun v => { v with irisHold := some holdTicks }) s)

/-- The four viewfinder buttons (section 11.6). -/
inductive VfButton where
  | record | goodShot | shot | stabToggle
  deriving DecidableEq, Repr

/-- The button of a code (section 11.6). -/
def VfButton.ofCode : Nat → Option VfButton
  | 0 => some .record | 1 => some .goodShot | 2 => some .shot | 3 => some .stabToggle | _ => none

/-- A button of the set of held buttons. -/
def Buttons.held (b : VfButton) (h : Buttons) : Bool :=
  match b with
  | .record => h.record
  | .goodShot => h.goodShot
  | .shot => h.shot
  | .stabToggle => h.stabToggle

/-- The set with a button held or not. -/
def Buttons.put (b : VfButton) (on : Bool) (h : Buttons) : Buttons :=
  match b with
  | .record => { h with record := on }
  | .goodShot => { h with goodShot := on }
  | .shot => { h with shot := on }
  | .stabToggle => { h with stabToggle := on }

/-- What a press does (R156). -/
def buttonPressed (b : VfButton) (s : State) : State :=
  match b with
  | .record => recPressed s
  | .goodShot => addMark .good none s
  | .shot => shotPressed .viewfinder s
  | .stabToggle => stabToggle s

/-- What a release does (R156). -/
def buttonReleased (b : VfButton) (s : State) : State :=
  match b with
  | .shot => shotReleased .viewfinder s
  | .record => s
  | .goodShot => s
  | .stabToggle => s

/-- A BUTTON record (R153, R156). -/
def buttonRecord (code state : Byte) (s : State) : State :=
  match VfButton.ofCode code.toNat with
  | none => decoderError s
  | some b =>
    if state.toNat > 1 then decoderError s
    else
      let press := state == 1
      if s.vf.buttons.held b = press then s
      else
        let s := updateVf (fun v => { v with buttons := v.buttons.put b press }) s
        if press then buttonPressed b s else buttonReleased b s

/-- A PANEL_KEY record (R153, R157). -/
def panelKeyRecord (key state : Byte) (s : State) : State :=
  if state.toNat > 1 then decoderError s
  else
    let k : PanelKey := ⟨key, state == 1, stampNow s⟩
    latch .vfKey <| updateVf (fun v =>
      if v.keys.length < 8 then { v with keys := v.keys ++ [k] }
      else { v with drops := min (v.drops + 1) 255 }) s

/-- A complete record is acted on (R153 to R157). -/
def recordActs (bytes : List Byte) (s : State) : State :=
  let b1 := byteAt bytes 1
  let b2 := byteAt bytes 2
  match (byteAt bytes 0).toNat with
  | 1 => pointerRecord b1.toNat s
  | 2 => rockerRecord b1 s
  | 3 => focusDeltaRecord (b2 ++ b1) s
  | 4 => irisDeltaRecord b1 s
  | 5 => buttonRecord b1 b2 s
  | 6 => panelKeyRecord b1 b2 s
  | _ => s

/-! ### The decoder (R153) -/

/-- The decoder takes a byte. -/
def decodeByte (b : Byte) (s : State) : State :=
  match s.vf.decoder with
  | .atType =>
    if (recordLength b.toNat).isSome then updateVf (fun v => { v with decoder := .inRecord [b] }) s
    else decoderError (updateVf (fun v => { v with decoder := .discarding }) s)
  | .inRecord bytes =>
    let bytes := bytes ++ [b]
    if recordLength (byteAt bytes 0).toNat = some bytes.length then
      recordActs bytes (updateVf (fun v => { v with decoder := .atType }) s)
    else updateVf (fun v => { v with decoder := .inRecord bytes }) s
  | .discarding => s

/-- The decoder meets a boundary. -/
def decodeBoundary (b : Boundary) (s : State) : State :=
  match s.vf.decoder with
  | .atType => s
  | .discarding => updateVf (fun v => { v with decoder := .atType }) s
  | .inRecord _ =>
    let s := updateVf (fun v => { v with decoder := .atType }) s
    match b with
    | .finish => decoderError s
    | .overrun => s

/-- The decoder can take a byte: one is there, and no rebuild is in progress (R153). -/
def decoderDue (s : State) : Bool := !s.vf.fifo.isEmpty && !s.vf.rebuilding

/-- A write hold ends with its byte in the FIFO (R152). -/
def Viewfinder.acceptHeld (v : Viewfinder) : Viewfinder :=
  match v.target with
  | .holdWrite byte =>
    { v with fifo := v.fifo ++ [(byte, none)], ack := true, holdTimer := none, target := .addressedWrite }
  | .idle => v
  | .addressedWrite => v
  | .addressedRead => v
  | .holdRead => v
  | .ignore => v

/-- The decoder takes the next byte, and any boundary after it (R152, R153). -/
def decoderTakes (s : State) : State :=
  if s.vf.rebuilding then s
  else
    match s.vf.fifo with
    | (b, mark) :: rest =>
      let s := decodeByte b (updateVf (fun v => { v with fifo := rest }.acceptHeld) s)
      match mark with
      | some m => decodeBoundary m s
      | none => s
    | [] => s

/-- DECODER_TAKE_BYTE (R153). -/
def execDecoderTakeByte (s : State) : Host.Outcome State Fault Refusal := .next (decoderTakes s)

/-- The byte that the decoder takes next completes this very record (log 4). -/
def completesRecord (bytes : List Byte) (s : State) : Bool :=
  !s.vf.rebuilding && recordLength (byteAt bytes 0).toNat == some bytes.length
    && match s.vf.decoder, s.vf.fifo with
      | .inRecord kept, (b, _) :: _ => kept ++ [b] == bytes
      | _, _ => false

/-- The decoder's taking of the byte that completes a record (log 4). -/
def takeRecord (bytes : List Byte) (s : State) : State :=
  if completesRecord bytes s then decoderTakes s else s

/-- POINTER (R154). -/
def execPointer (offset : Byte) (s : State) : Host.Outcome State Fault Refusal :=
  .next (takeRecord [1, offset] s)

/-- ROCKER (R154). -/
def execRocker (value : Byte) (s : State) : Host.Outcome State Fault Refusal :=
  .next (takeRecord [2, value] s)

/-- FOCUS_DELTA (R155). -/
def execFocusDelta (delta : BitVec 16) (s : State) : Host.Outcome State Fault Refusal :=
  .next (takeRecord (3 :: wordBytes delta) s)

/-- IRIS_DELTA (R155). -/
def execIrisDelta (delta : Byte) (s : State) : Host.Outcome State Fault Refusal :=
  .next (takeRecord [4, delta] s)

/-- BUTTON (R156). -/
def execButton (code state : Byte) (s : State) : Host.Outcome State Fault Refusal :=
  .next (takeRecord [5, code, state] s)

/-- PANEL_KEY (R157). -/
def execPanelKey (key state : Byte) (s : State) : Host.Outcome State Fault Refusal :=
  .next (takeRecord [6, key, state] s)

/-! ### Boundaries (R152) -/

/-- Two boundaries on one byte: OVERRUN if either is (R152). -/
def joinMark (old : Option Boundary) (new : Boundary) : Boundary :=
  match old with
  | some .overrun => .overrun
  | some .finish => new
  | none => new

/-- The newest byte of the FIFO takes a boundary (R152). -/
def markNewest (m : Boundary) : List (Byte × Option Boundary) → List (Byte × Option Boundary)
  | [] => []
  | [(b, old)] => [(b, some (joinMark old m))]
  | x :: y :: rest => x :: markNewest m (y :: rest)

/-- The FIFO receives a boundary (R152). -/
def receiveBoundary (m : Boundary) (s : State) : State :=
  if s.vf.fifo.isEmpty then
    if s.vf.rebuilding then updateVf (fun v => { v with heldMarks := v.heldMarks ++ [m] }) s
    else decodeBoundary m s
  else updateVf (fun v => { v with fifo := markNewest m v.fifo }) s

/-- The boundaries held during a rebuild reach the decoder (R152). -/
def releaseMarks (s : State) : State :=
  let marks := s.vf.heldMarks
  marks.foldl (fun s m => decodeBoundary m s) (updateVf (fun v => { v with heldMarks := [] }) s)

/-! ### The link target (R150 to R152) -/

/-- The target holds the clock (R151, R152). -/
def TargetState.holds : TargetState → Bool
  | .holdWrite _ => true | .holdRead => true
  | .idle => false | .addressedWrite => false | .addressedRead => false | .ignore => false

/-- The transaction in progress ends: END boundary of a write, end of a read with a pending swap (R150). -/
def endTransaction (s : State) : State :=
  let s := if s.vf.writing then receiveBoundary .finish (updateVf (fun v => { v with writing := false }) s)
    else s
  if s.vf.reading then updateVf (fun v => { v with reading := false }.trySwap) s else s

/-- LINK_START (R150): a start or repeated start; while the clock is held the master can signal nothing. -/
def execLinkStart (s : State) : Host.Outcome State Fault Refusal :=
  .next (if s.vf.target.holds then s
    else updateVf (fun v => { v with target := .idle }) (endTransaction s))

/-- LINK_STOP (R150). -/
def execLinkStop (s : State) : Host.Outcome State Fault Refusal :=
  .next (if s.vf.target.holds then s
    else updateVf (fun v => { v with target := .idle, pointer := 0 }) (endTransaction s))

/-- An address byte is answered with ACK: the presence timer restarts, and ABSENT becomes PRESENT (R158). -/
def notePresence (s : State) : State :=
  let was := s.vf.present
  latchIf (!was) .vfPresence
    (updateVf (fun v => { v with present := true, presence := some presenceTicks, ack := true }) s)

/-- A read is addressed (R150, R151). -/
def Viewfinder.startRead (v : Viewfinder) : Viewfinder :=
  if v.shown.isNone then { v with reading := true, target := .holdRead }
  else { v with reading := true, target := .addressedRead }.send

/-- An address byte (R150). -/
def addressByteTaken (address : BitVec 7) (read : Bool) (s : State) : State :=
  if s.vf.target = .idle then
    if address.toNat = s.vf.address then
      let s := notePresence s
      if read then updateVf Viewfinder.startRead s
      else updateVf (fun v => { v with writing := true, target := .addressedWrite }) s
    else updateVf (fun v => { v with target := .ignore, ack := false }) s
  else s

/-- ADDRESS_BYTE (R150). -/
def execAddressByte (address : BitVec 7) (read : Bool) (s : State) : Host.Outcome State Fault Refusal :=
  .next (addressByteTaken address read s)

/-- A written data byte is offered to the FIFO (R152). -/
def Viewfinder.offer (byte : Byte) (v : Viewfinder) : Viewfinder :=
  if v.target = .addressedWrite then
    if v.fifo.length < 16 then { v with fifo := v.fifo ++ [(byte, none)], ack := true }
    else { v with target := .holdWrite byte, holdTimer := some writeHoldTicks }
  else v

/-- WRITE_DATA_BYTE (R152). -/
def execWriteDataByte (byte : Byte) (s : State) : Host.Outcome State Fault Refusal :=
  .next (updateVf (Viewfinder.offer byte) s)

/-- The master's answer to a byte sent (R150, R151). -/
def Viewfinder.acknowledged (ack : Bool) (v : Viewfinder) : Viewfinder :=
  if v.target = .addressedRead then if ack then v.send else { v with target := .ignore } else v

/-- READ_BYTE_ACKNOWLEDGE (R151). -/
def execReadByteAcknowledge (ack : Bool) (s : State) : Host.Outcome State Fault Refusal :=
  .next (updateVf (Viewfinder.acknowledged ack) s)

/-- A write hold reaches 2 ms (R152). -/
def writeHoldExpired (s : State) : State :=
  match s.vf.target with
  | .holdWrite _ =>
    let s := updateVf (fun v => { v with
      target := .ignore, ack := false, holdTimer := none, overruns := countUp v.overruns }) s
    latch .diag (receiveBoundary .overrun s)
  | .idle | .addressedWrite | .addressedRead | .holdRead | .ignore => s

/-- WRITE_HOLD_TIMEOUT (R152). -/
def execWriteHoldTimeout (s : State) : Host.Outcome State Fault Refusal := .next (writeHoldExpired s)

/-! ### Holds and presence (R154, R155, R158) -/

/-- The zoom hold ends (R154). -/
def zoomHoldEnds (s : State) : State := zoomHoldEnded (updateVf (fun v => { v with zoomHold := .none }) s)

/-- The focus hold ends (R155). -/
def focusHoldEnds (s : State) : State := focusHoldEnded (updateVf (fun v => { v with focusHold := none }) s)

/-- The iris hold ends (R155). -/
def irisHoldEnds (s : State) : State := irisHoldEnded (updateVf (fun v => { v with irisHold := none }) s)

/-- The zoom hold is timing its expiry (R154). -/
def ZoomHold.isTiming : ZoomHold → Bool
  | .timing _ => true
  | .none => false
  | .held => false

/-- ZOOM_HOLD_EXPIRY (R154). -/
def execZoomHoldExpiry (s : State) : Host.Outcome State Fault Refusal :=
  .next (if s.vf.zoomHold.isTiming then zoomHoldEnds s else s)

/-- The expiry of the hold of one axis (R155). -/
def axisHoldExpired (axis : WheelAxis) (s : State) : State :=
  match axis with
  | .focus => if s.vf.focusHold.isSome then focusHoldEnds s else s
  | .iris => if s.vf.irisHold.isSome then irisHoldEnds s else s

/-- AXIS_HOLD_EXPIRY (R155). -/
def execAxisHoldExpiry (axis : WheelAxis) (s : State) : Host.Outcome State Fault Refusal :=
  .next (axisHoldExpired axis s)

/-- A write transaction is ended for the target at the entry to ABSENT (R158, step 3). -/
def Viewfinder.dropWrite (v : Viewfinder) : Viewfinder :=
  let v := { v with fifo := [], heldMarks := [], decoder := .atType }
  if v.writing then
    match v.target with
    | .holdWrite _ => { v with writing := false, target := .ignore, ack := false, holdTimer := none }
    | .idle | .addressedWrite | .addressedRead | .holdRead | .ignore =>
      { v with writing := false, target := .ignore }
  else v

/-- The operator's demands are withdrawn (R158). -/
def withdrawOperator (s : State) : State :=
  let s := rockerTaken 0 (updateVf (fun v => { v with rocker := 0 }) s)
  let s := if s.vf.zoomHold = .none then s else zoomHoldEnds s
  let s := if s.vf.focusHold.isSome then focusHoldEnds s else s
  let s := if s.vf.irisHold.isSome then irisHoldEnds s else s
  let shot := s.vf.buttons.shot
  let s := updateVf (fun v => { v.dropWrite with buttons := ⟨false, false, false, false⟩ }) s
  if shot then shotPressLost s else s

/-- The presence timer expires (R158). -/
def presenceExpired (s : State) : State :=
  if s.vf.present then
    withdrawOperator
      (latch .vfPresence (updateVf (fun v => { v with present := false, presence := none }) s))
  else s

/-- PRESENCE_TIMER_EXPIRY (R158). -/
def execPresenceTimerExpiry (s : State) : Host.Outcome State Fault Refusal := .next (presenceExpired s)

/-! ### Rebuild and requests (R159, R162, R163) -/

/-- A rebuild completes (R152, R159). -/
def rebuildCompletes (s : State) : State :=
  if s.vf.rebuilding then
    releaseMarks (updateVf (fun v => { v with build := .waiting }.trySwap) s)
  else s

/-- PAGE_REBUILD_COMPLETE (R159). -/
def execPageRebuildComplete (s : State) : Host.Outcome State Fault Refusal := .next (rebuildCompletes s)

/-- A character of the host text as shown (R162). -/
def shownChar (b : Byte) : Byte := if 0x20 ≤ b.toNat && b.toNat ≤ 0x7E then b else 0x20

/-- The 24 characters of a new host text (R162). -/
def hostText (length : Nat) (chars : List Byte) : List Byte :=
  (((chars.take length).map shownChar) ++ blankText).take 24

/-- SET_VF_TEXT is taken (R162). -/
def setVfTextTaken (slot : Fin 32) (length : Byte) (chars : List Byte) (s : State) : State :=
  let answer (status : Status) (s : State) := complete slot status [byteOf s.vf.version] s
  if length.toNat > 24 then answer .badValue s
  else
    let adjusted := (chars.take length.toNat).any fun b => shownChar b != b
    answer (okStatus adjusted) (updateVf (fun v => { v with text := hostText length.toNat chars }) s)

/-- SET_VF_TEXT (R162). -/
def execSetVfText (slot : Fin 32) (length : Byte) (chars : List Byte) (s : State) :
    Host.Outcome State Fault Refusal :=
  .next (serve slot (.setVfText slot length chars) (setVfTextTaken slot length chars) s)

/-- SET_VF_CONFIG is taken (R163). -/
def setVfConfigTaken (slot : Fin 32) (address : Byte) (s : State) : State :=
  let answer (status : Status) (s : State) := complete slot status [byteOf s.vf.address] s
  if 0x08 ≤ address.toNat && address.toNat ≤ 0x77 then
    answer .ok (updateVf (fun v => { v with address := address.toNat }) s)
  else answer .badValue s

/-- SET_VF_CONFIG (R163). -/
def execSetVfConfig (slot : Fin 32) (address : Byte) (s : State) : Host.Outcome State Fault Refusal :=
  .next (serve slot (.setVfConfig slot address) (setVfConfigTaken slot address) s)

end Sys2Proof.Machine
end

