-- ==== Sys2Proof/Machine/Dispatch.lean ====
section
/-! DEFINITION. The dispatch of a command to its meaning: one arm per row of the opcode table. -/

namespace Sys2Proof.Machine

/-- The effect of a command on everything but the queue. -/
def exec (i : Instr) (s : State) : Host.Outcome State Fault Refusal :=
  match i with
  | .powerOnReset pins => Sys2Proof.Machine.execPowerOnReset pins s
  | .controllerReset => Sys2Proof.Machine.execControllerReset s
  | .controlWrite value => Sys2Proof.Machine.execControlWrite value s
  | .workBaseWrite value => Sys2Proof.Machine.execWorkBaseWrite value s
  | .postWrite value => Sys2Proof.Machine.execPostWrite value s
  | .doneRead => Sys2Proof.Machine.execDoneRead s
  | .releaseWrite value => Sys2Proof.Machine.execReleaseWrite value s
  | .eventsRead => Sys2Proof.Machine.execEventsRead s
  | .registerWriteNoEffect register value => Sys2Proof.Machine.execRegisterWriteNoEffect register value s
  | .fetchStart => Sys2Proof.Machine.execFetchStart s
  | .fetchEnd read writes => Sys2Proof.Machine.execFetchEnd read writes s
  | .laneStart lane => Sys2Proof.Machine.execLaneStart lane s
  | .completionWritesEnd writes => Sys2Proof.Machine.execCompletionWritesEnd writes s
  | .cancel slot target => Sys2Proof.Machine.execCancel slot target s
  | .getStatus slot => Sys2Proof.Machine.execGetStatus slot s
  | .setEventLevels slot levels => Sys2Proof.Machine.execSetEventLevels slot levels s
  | .setCue slot cue => Sys2Proof.Machine.execSetCue slot cue s
  | .setVideoFormat slot rate drop => Sys2Proof.Machine.execSetVideoFormat slot rate drop s
  | .setTc slot hours minutes seconds frames => Sys2Proof.Machine.execSetTc slot hours minutes seconds frames s
  | .setTcMode slot mode => Sys2Proof.Machine.execSetTcMode slot mode s
  | .setGenlock slot enable => Sys2Proof.Machine.execSetGenlock slot enable s
  | .frameStart order => Sys2Proof.Machine.execFrameStart order s
  | .dayLimitReached order => Sys2Proof.Machine.execDayLimitReached order s
  | .holdoverExpiry order => Sys2Proof.Machine.execHoldoverExpiry order s
  | .referenceEdge order => Sys2Proof.Machine.execReferenceEdge order s
  | .missedEdge => Sys2Proof.Machine.execMissedEdge s
  | .lineRawChange line level => Sys2Proof.Machine.execLineRawChange line level s
  | .debounceExpiry line => Sys2Proof.Machine.execDebounceExpiry line s
  | .setLines slot groups => Sys2Proof.Machine.execSetLines slot groups s
  | .scanFrameStart => Sys2Proof.Machine.execScanFrameStart s
  | .channelStarved channel => Sys2Proof.Machine.execChannelStarved channel s
  | .conversionComplete channel code => Sys2Proof.Machine.execConversionComplete channel code s
  | .setScan slot code => Sys2Proof.Machine.execSetScan slot code s
  | .setPowerLimits slot low empty => Sys2Proof.Machine.execSetPowerLimits slot low empty s
  | .zoomMove slot target maxSpeed => Sys2Proof.Machine.execZoomMove slot target maxSpeed s
  | .zoomSpeed slot speed duration => Sys2Proof.Machine.execZoomSpeed slot speed duration s
  | .zoomSpeedExpiry => Sys2Proof.Machine.execZoomSpeedExpiry s
  | .zoomStall => Sys2Proof.Machine.execZoomStall s
  | .focusStep => Sys2Proof.Machine.execFocusStep s
  | .referencingFault => Sys2Proof.Machine.execReferencingFault s
  | .focusMove slot target rate => Sys2Proof.Machine.execFocusMove slot target rate s
  | .irisSet slot target => Sys2Proof.Machine.execIrisSet slot target s
  | .irisStall order => Sys2Proof.Machine.execIrisStall order s
  | .lensStop slot => Sys2Proof.Machine.execLensStop slot s
  | .loadLensTables slot address => Sys2Proof.Machine.execLoadLensTables slot address s
  | .lensTableReadEnd read => Sys2Proof.Machine.execLensTableReadEnd read s
  | .setTracking slot enable => Sys2Proof.Machine.execSetTracking slot enable s
  | .shotPush slot => Sys2Proof.Machine.execShotPush slot s
  | .spillWriteEnd writes => Sys2Proof.Machine.execSpillWriteEnd writes s
  | .shotRecall slot => Sys2Proof.Machine.execShotRecall slot s
  | .spillReadEnd read => Sys2Proof.Machine.execSpillReadEnd read s
  | .shotPressTimerExpiry => Sys2Proof.Machine.execShotPressTimerExpiry s
  | .shotClear slot => Sys2Proof.Machine.execShotClear slot s
  | .setShotPolicy slot policy => Sys2Proof.Machine.execSetShotPolicy slot policy s
  | .stabSettled => Sys2Proof.Machine.execStabSettled s
  | .panEntry axis code => Sys2Proof.Machine.execPanEntry axis code s
  | .panExit axis code => Sys2Proof.Machine.execPanExit axis code s
  | .stabMode slot mode => Sys2Proof.Machine.execStabMode slot mode s
  | .stabParams slot leak panLeak deadBand panThreshold stroke => Sys2Proof.Machine.execStabParams slot leak panLeak deadBand panThreshold stroke s
  | .stabCalibrate slot => Sys2Proof.Machine.execStabCalibrate slot s
  | .calibrationEnd code => Sys2Proof.Machine.execCalibrationEnd code s
  | .mountAfterResetStart card => Sys2Proof.Machine.execMountAfterResetStart card s
  | .headerReadEnd card answer => Sys2Proof.Machine.execHeaderReadEnd card answer s
  | .blockWriteEnd card answer => Sys2Proof.Machine.execBlockWriteEnd card answer s
  | .extentSourceError card => Sys2Proof.Machine.execExtentSourceError card s
  | .indexWriteEnd card answer => Sys2Proof.Machine.execIndexWriteEnd card answer s
  | .formatEnd card answer => Sys2Proof.Machine.execFormatEnd card answer s
  | .cardLinkTimeout card => Sys2Proof.Machine.execCardLinkTimeout card s
  | .formatCard slot card => Sys2Proof.Machine.execFormatCard slot card s
  | .recStart slot => Sys2Proof.Machine.execRecStart slot s
  | .recStop slot => Sys2Proof.Machine.execRecStop slot s
  | .recGuardExpiry => Sys2Proof.Machine.execRecGuardExpiry s
  | .writeEssence slot extents => Sys2Proof.Machine.execWriteEssence slot extents s
  | .clearHalt slot => Sys2Proof.Machine.execClearHalt slot s
  | .mark slot kind detail => Sys2Proof.Machine.execMark slot kind detail s
  | .goodPulseExpiry => Sys2Proof.Machine.execGoodPulseExpiry s
  | .setRecMode slot mode preferred limit bitrate => Sys2Proof.Machine.execSetRecMode slot mode preferred limit bitrate s
  | .listClips slot start => Sys2Proof.Machine.execListClips slot start s
  | .audioFrame sample1 sample2 sample3 sample4 => Sys2Proof.Machine.execAudioFrame sample1 sample2 sample3 sample4 s
  | .syncGapExpiry => Sys2Proof.Machine.execSyncGapExpiry s
  | .recoveryTimerExpiry => Sys2Proof.Machine.execRecoveryTimerExpiry s
  | .muteCountExpiry channel order => Sys2Proof.Machine.execMuteCountExpiry channel order s
  | .limiterRelease channel order => Sys2Proof.Machine.execLimiterRelease channel order s
  | .agcRise channel order => Sys2Proof.Machine.execAgcRise channel order s
  | .codecWriteEnd => Sys2Proof.Machine.execCodecWriteEnd s
  | .audioConfig slot groups => Sys2Proof.Machine.execAudioConfig slot groups s
  | .audioLevels slot hold overLevel limit target ceiling => Sys2Proof.Machine.execAudioLevels slot hold overLevel limit target ceiling s
  | .linkStart => Sys2Proof.Machine.execLinkStart s
  | .linkStop => Sys2Proof.Machine.execLinkStop s
  | .addressByte address read => Sys2Proof.Machine.execAddressByte address read s
  | .writeDataByte byte => Sys2Proof.Machine.execWriteDataByte byte s
  | .readByteAcknowledge ack => Sys2Proof.Machine.execReadByteAcknowledge ack s
  | .writeHoldTimeout => Sys2Proof.Machine.execWriteHoldTimeout s
  | .decoderTakeByte => Sys2Proof.Machine.execDecoderTakeByte s
  | .pointer offset => Sys2Proof.Machine.execPointer offset s
  | .rocker value => Sys2Proof.Machine.execRocker value s
  | .focusDelta delta => Sys2Proof.Machine.execFocusDelta delta s
  | .irisDelta delta => Sys2Proof.Machine.execIrisDelta delta s
  | .button code state => Sys2Proof.Machine.execButton code state s
  | .panelKey key state => Sys2Proof.Machine.execPanelKey key state s
  | .zoomHoldExpiry => Sys2Proof.Machine.execZoomHoldExpiry s
  | .axisHoldExpiry axis => Sys2Proof.Machine.execAxisHoldExpiry axis s
  | .presenceTimerExpiry => Sys2Proof.Machine.execPresenceTimerExpiry s
  | .pageRebuildComplete => Sys2Proof.Machine.execPageRebuildComplete s
  | .setVfText slot length chars => Sys2Proof.Machine.execSetVfText slot length chars s
  | .setVfConfig slot address => Sys2Proof.Machine.execSetVfConfig slot address s

end Sys2Proof.Machine
end

