-- ==== Sys2Proof/Machine/Idle.lean ====
section
/-! DEFINITION. What the part does while no command waits (log 2): the command that its own state makes due, and
one tick of the 27 MHz clock when none is. -/

namespace Sys2Proof.Machine

/-! ### A tick -/

/-- A timer with one tick less to run. -/
def countDown (timer : Option Nat) : Option Nat := timer.map fun n => n - 1

/-- A timer that counts up and stops at a limit. -/
def countTo (limit : Nat) (timer : Option Nat) : Option Nat := timer.map fun n => min (n + 1) limit

/-- The frame clock: frame counter, interval timer and watchdog (R2, R4, R6). -/
def Clock.tick (c : Clock) : Clock :=
  let ends := decide (c.counter + 1 ≥ c.period)
  { c with
    counter := if ends then c.counter else c.counter + 1
    frameDue := c.frameDue || ends
    prevEdge := countTo (2 * c.rate.period) c.prevEdge
    watchdog := c.watchdog.map fun w => w + 1 }

/-- The line debounce timers (R21). -/
def Line.tick (l : Line) : Line := { l with timer := countDown l.timer }

/-- The scan frame timer (R26). -/
def Scan.tick (c : Scan) : Scan :=
  if c.timer + 1 ≥ scanFrameTicks then { c with due := true } else { c with timer := c.timer + 1 }

/-- A ZOOM_SPEED's time remaining (R44). -/
def HostZoom.tick (h : HostZoom) : HostZoom :=
  match h.order with
  | .speed v left => { h with order := .speed v (left - 1) }
  | .move _ _ => h

/-- The zoom: time remaining, and the PWM period, at whose start a new duty and direction take effect (R44,
R47). -/
def Zoom.tick (z : Zoom) : Zoom :=
  let count := (z.pwmCount + 1) % 1024
  { z with
    host := z.host.map HostZoom.tick
    pwmCount := count
    dutyPin := if count = 0 then z.duty else z.dutyPin
    dirPinTele := if count = 0 then z.dirTele else z.dirPinTele }

/-- The stepper steps: in REFERENCING and in MOVING (R50, R51). -/
def FocusState.stepping : FocusState → Bool
  | .referencing => true | .moving => true
  | .unreferenced => false | .idle => false | .fault => false

/-- The steps per ms in force: 4 in REFERENCING, the move's rate in MOVING (R50, R51). -/
def Focus.stepRate (f : Focus) : Nat := if f.state = .referencing then 4 else f.rate

/-- The step interval (R50, R51). -/
def Focus.tick (f : Focus) : Focus :=
  if f.state.stepping then { f with phase := f.phase + f.stepRate } else f

/-- The SHOT press timer (R74). -/
def Shots.tick (h : Shots) : Shots :=
  { h with press := h.press.map fun p => { p with timer := countDown p.timer } }

/-- A BLOCK_WRITE awaits the answer to a block while blocks remain to be sent (R94). -/
def LinkOp.sending (o : LinkOp) : Bool := o.kind == .blockWrite && decide (o.unsent > 0)

/-- A tick of an operation's time limit. Where the answer to a block of a BLOCK_WRITE has come, the next block is
sent, and its 250 ms begin (R94, R102). -/
def LinkOp.tick (answered : Bool) (o : LinkOp) : LinkOp :=
  if o.sending && answered then
    { o with unsent := o.unsent - 1, left := linkLimit .blockWrite * ticksPerMs }
  else { o with left := o.left - 1 }

/-- A card link operation's time limit (R94). -/
def Card.tick (answered : Bool) (k : Card) : Card := { k with op := k.op.map (LinkOp.tick answered) }

/-- Some card is sending the blocks of an extent, so that a tick reads its answers as free values (log 22). -/
def awaitsBlocks (s : State) : Bool :=
  s.cardA.op.any LinkOp.sending || s.cardB.op.any LinkOp.sending

/-- The REC guard and the GOOD pulse (R114, R129). -/
def Recorder.tick (r : Recorder) : Recorder :=
  { r with guardTimer := countDown r.guardTimer, pulse := countDown r.pulse }

/-- The sync gap timer and the recovery timer (R136). -/
def Audio.tick (a : Audio) : Audio :=
  { a with gap := min (a.gap + 1) gapTicks, recovery := countTo recoveryTicks a.recovery }

/-- The zoom hold (R154). -/
def ZoomHold.tick (h : ZoomHold) : ZoomHold :=
  match h with
  | .timing left => .timing (left - 1)
  | .none => .none
  | .held => .held

/-- The rebuild in progress (R159). -/
def BuildState.tick (b : BuildState) : BuildState :=
  match b with
  | .building left => .building (left - 1)
  | .idle => .idle
  | .waiting => .waiting

/-- The viewfinder link's timers (R152, R154, R155, R158, R159). -/
def Viewfinder.tick (v : Viewfinder) : Viewfinder :=
  { v with
    holdTimer := countDown v.holdTimer
    presence := countDown v.presence
    zoomHold := v.zoomHold.tick
    focusHold := countDown v.focusHold
    irisHold := countDown v.irisHold
    build := v.build.tick }

/-- One tick of the 27 MHz clock (log 2). -/
def tick (s : State) : State :=
  { s with
    clock := s.clock.tick, lines := mapBank Line.tick s.lines, scan := s.scan.tick, zoom := s.zoom.tick
    focus := s.focus.tick, shots := s.shots.tick
    cardA := s.cardA.tick (Config.freeAnswer s.freeCount)
    cardB := s.cardB.tick (Config.freeAnswer (s.freeCount + 1))
    freeCount := if awaitsBlocks s then s.freeCount + 2 else s.freeCount
    recorder := s.recorder.tick, audio := s.audio.tick, vf := s.vf.tick }

/-! ### Commands that are due -/

/-- The command, where a condition makes it due. -/
def dueIf (b : Bool) (i : Instr) : Option Instr := if b then some i else none

/-- A timer that has run out. -/
def ranOut (timer : Option Nat) : Bool := timer == some 0

/-- The first request in fetch order that has been started and not yet run (R180, log 7). -/
def startedRequest (s : State) : Option Instr :=
  s.unit.order.findSome? fun n =>
    if s.unit.slots[n].state = .started then s.unit.slots[n].request else none

/-- The seven lanes. -/
def allLanes : List LaneId := [.system, .lens, .stab, .record, .essence, .audio, .display]

/-- A card link operation past its limit (R94). -/
def linkLate (k : Card) : Bool :=
  match k.op with
  | some o => o.left == 0
  | none => false

/-- A ZOOM_SPEED whose time has run out (R44). -/
def zoomSpeedDue (z : Zoom) : Bool :=
  match z.host with
  | some ⟨_, .speed _ left, _⟩ => left == 0
  | _ => false

/-- The sync gap timer has reached 1 ms, where that changes anything (R136). -/
def syncGapDue (a : Audio) : Bool := decide (a.gap ≥ gapTicks) && (!a.lost || a.recovery.isSome)

/-- The watchdog has passed the next edge threshold (R6). -/
def missedEdgeDue (c : Clock) : Bool :=
  match c.watchdog with
  | some w => decide (w ≥ missThreshold c.rate.period c.missed)
  | none => false

/-- The commands of the slot unit and of the other blocks that wait for no time to pass. -/
def dueAtOnce (s : State) : List (Option Instr) :=
  [startedRequest s, dueIf (fetchDue s) .fetchStart]
    ++ allLanes.map (fun l => dueIf (laneDue l s) (.laneStart l))
    ++ [dueIf (decoderDue s) .decoderTakeByte, dueIf (mountStartDue .a s) (.mountAfterResetStart .a),
      dueIf (mountStartDue .b s) (.mountAfterResetStart .b)]

/-- The commands that the passing of time makes due. -/
def dueByTime (s : State) : List (Option Instr) :=
  [dueIf s.clock.frameDue (.frameStart (Config.freeOrder s.freeCount)), dueIf s.scan.due .scanFrameStart,
    dueIf (missedEdgeDue s.clock) .missedEdge]
    ++ (List.finRange 7).map (fun i => dueIf (ranOut s.lines[i].timer) (.debounceExpiry i))
    ++ [dueIf (zoomSpeedDue s.zoom) .zoomSpeedExpiry,
      dueIf (s.focus.state.stepping && decide (s.focus.phase ≥ ticksPerMs)) .focusStep,
      dueIf (ranOut (s.shots.press.bind fun p => p.timer)) .shotPressTimerExpiry,
      dueIf (linkLate s.cardA) (.cardLinkTimeout .a), dueIf (linkLate s.cardB) (.cardLinkTimeout .b),
      dueIf (ranOut s.recorder.guardTimer) .recGuardExpiry, dueIf (ranOut s.recorder.pulse) .goodPulseExpiry,
      dueIf (syncGapDue s.audio) .syncGapExpiry,
      dueIf (s.audio.lost && s.audio.recovery == some recoveryTicks) .recoveryTimerExpiry,
      dueIf (ranOut s.vf.holdTimer) .writeHoldTimeout, dueIf (s.vf.zoomHold == .timing 0) .zoomHoldExpiry,
      dueIf (ranOut s.vf.focusHold) (.axisHoldExpiry .focus),
      dueIf (ranOut s.vf.irisHold) (.axisHoldExpiry .iris),
      dueIf (ranOut s.vf.presence) .presenceTimerExpiry,
      dueIf (s.vf.build == .building 0) .pageRebuildComplete]

/-- The command that the part's own state makes due, if any (log 2). -/
def dueCommand (s : State) : Option Instr := (dueAtOnce s ++ dueByTime s).findSome? id

end Sys2Proof.Machine
end

