-- ==== Sys2Proof/Machine/Step.lean ====
section
/-! DEFINITION. A step of the CB5: the command at the front of the queue, or, with none waiting, what the part's
own state makes due, or one tick. -/

namespace Sys2Proof.Machine

/-- A step on an empty queue (log 2): a due command uses the free-value counter once, for the order of
receivers of a frame start. -/
def idleStep (s : State) : Host.Outcome State Fault Refusal :=
  match dueCommand s with
  | some i => exec i (useFree 1 s)
  | none => .next (tick s)

/-- One step: the command at the front of the queue is run with the queue's rest. -/
def step (s : State) : Host.Outcome State Fault Refusal :=
  match s.pending with
  | i :: rest => exec i { s with pending := rest }
  | [] => idleStep s

/-- The state with the command that a word spells at the front of its queue; the opcode table gives no row any
bits, so no word spells one. -/
def State.withFetchWord (s : State) (nbits w : Nat) : State :=
  match Sys2Proof.decodeTableWord nbits w with
  | some i => { s with pending := i :: s.pending }
  | none => s

end Sys2Proof.Machine
end

