-- ==== Sys2Proof/Safety.lean ====
section
/-! DEFINITION. What statements about the CB5 are phrased with: the state after a request has been answered or an
event latched, and the invariants of the blocks. -/

namespace Sys2Proof.Machine

/-! ### Effects that many commands share -/

/-- The state with the request of slot `n` answered: the slot's completion writes begin, and the completion
is the last of those the slot unit has to write (R181). -/
def answered (n : Fin 32) (status : Status) (result : List Byte) (s : State) : State :=
  { s with unit := { s.unit with
      slots := put s.unit.slots n { s.unit.slots[n] with state := .completing }
      completions := s.unit.completions
        ++ [⟨n, s.unit.workBase, status, result, none, true⟩] } }

/-- The state with the request of slot `n` taken by its serving block and still in progress. -/
def running (n : Fin 32) (s : State) : State :=
  { s with unit := { s.unit with slots := put s.unit.slots n { s.unit.slots[n] with state := .running } } }

/-- A slot's state is not that of a request in progress that has yet to be completed. -/
def slotSettled (n : Fin 32) (s : State) : Bool := !s.unit.slots[n].state.inService

/-- A class is latched in a state: its latch is set (R171). -/
def isLatched (c : EventClass) (s : State) : Bool := s.events.latches.getLsbD c.bit.val

/-- The level of a class is 0, so that its occurrences are not latched (R171). -/
def isMuted (c : EventClass) (s : State) : Bool := s.events.levels[c.bit] == 0

/-- The three lens axes are free for a recall of an entry and each has to move: no holder and no host request, the
focus at home and idle, and each axis away from the entry's clamped position (R72). -/
def axesFree (e : Shot) (s : State) : Prop :=
  s.zoom.holder = .none ∧ s.zoom.host = none ∧ s.focus.state = .idle ∧ s.focus.holder = .none
    ∧ s.focus.host = none ∧ s.iris.holder = .none ∧ s.iris.host = none ∧ s.iris.target ≠ none
    ∧ (∃ z, s.zoom.z = some z ∧ 4 < ((clampNat s.zoom.softMin s.zoom.softMax e.z : Nat) - (z : Int)).natAbs)
    ∧ ∃ p, s.focus.pos = some p ∧ p ≠ min e.focus s.focus.near

/-- The moves of a recall have begun: each axis is claimed for the recall with its target, the entry is still on the
stack, and the other blocks are as they were (R72). -/
def movesBegun (source : ShotSource) (e : Shot) (adjusted : Bool) (s t : State) : Prop :=
  let z := clampNat s.zoom.softMin s.zoom.softMax e.z
  t.shots = { s.shots with
      op := some (.moving ⟨source, e, adjusted || z != e.z, false, false, false⟩), transfers := t.shots.transfers }
    ∧ t.zoom.holder = .recall ∧ t.zoom.recallClaim = some ⟨z, 64⟩ ∧ t.focus.holder = .recall
    ∧ t.focus.target = min e.focus s.focus.near ∧ t.focus.rate = 16 ∧ t.focus.state = .moving
    ∧ t.iris.holder = .recall ∧ t.iris.target = some e.iris ∧ t.iris.settle = 0
    ∧ t.clock = s.clock ∧ t.lines = s.lines ∧ t.scan = s.scan ∧ t.power = s.power ∧ t.recorder = s.recorder
    ∧ t.vf = s.vf ∧ t.mem = s.mem

/-- The results of a recall that has an entry: the stack's depth and the entry's fields (R72). -/
def recallBytes (depth : Nat) (e : Shot) : List Byte :=
  byteOf depth :: (field16 e.z ++ field16 e.focus ++ field16 e.d ++ [byteOf e.iris, if e.tracking then 1 else 0])

/-- The slot unit after the end of a recall: a recall that a request started completes, and one of a press or a cue
completes nothing (R73, R74, R169). -/
def recallUnit (source : ShotSource) (status : Status) (result : List Byte) (s : State) : SlotUnit :=
  match source with
  | .request k => (answered k status result s).unit
  | .press => s.unit
  | .cue _ => s.unit

/-- A recall whose moves have begun has ended at the axis `taken` with a status and with its entry on the stack, and the
claims still held on the other axes are withdrawn, each such axis let go where it stands, the zoom with a demand of 0,
the focus with its target at its position and the iris with its target at its command (R57, R73). -/
def recallEnded (status : Status) (taken : LensAxis) (r : Recall) (s t : State) : Prop :=
  t.shots = { s.shots with op := none }
    ∧ t.unit = recallUnit r.source status (recallBytes s.shots.depth r.entry) s
    ∧ (taken ≠ .zoom →
        (s.zoom.holder = .recall → t.zoom.holder = .none ∧ t.zoom.recallClaim = none ∧ t.zoom.demand = 0)
        ∧ (s.zoom.holder ≠ .recall → t.zoom.holder = s.zoom.holder ∧ t.zoom.recallClaim = s.zoom.recallClaim
          ∧ t.zoom.demand = s.zoom.demand))
    ∧ (taken ≠ .focus →
        (s.focus.holder = .recall → t.focus.holder = .none
          ∧ ∀ p, s.focus.pos = some p → t.focus.target = min p s.focus.near)
        ∧ (s.focus.holder ≠ .recall → t.focus = s.focus))
    ∧ (taken ≠ .iris →
        (s.iris.holder = .recall → t.iris = { s.iris with
          holder := .none, host := none, recallTarget := none, target := s.iris.command, settle := 0 })
        ∧ (s.iris.holder ≠ .recall → t.iris = s.iris))
    ∧ t.focus.pos = s.focus.pos ∧ t.zoom.z = s.zoom.z ∧ t.iris.pos = s.iris.pos

/-- The operator has taken the axis `taken` from a recall whose moves have begun: the recall ends PREEMPTED (R40, R53,
R56, R73). -/
def recallPreempted (taken : LensAxis) (r : Recall) (s t : State) : Prop := recallEnded .preempted taken r s t

/-- The state with a host request of the lens, where there is one, answered PREEMPTED (R41, R52, R56). -/
def hostPreempted (slot : Option (Fin 32)) (result : List Byte) (s : State) : State :=
  match slot with
  | some n => answered n .preempted result s
  | none => s

/-- No axis is held for a recall, the focus is IDLE or MOVING, and the host requests in progress on the axes are requests
that their block has taken, of three slots other than slot `n`. -/
def claimable (n : Fin 32) (s : State) : Prop :=
  let slots : List (Fin 32) := (s.zoom.host.map HostZoom.slot).toList ++ (s.focus.host.map HostFocus.slot).toList
    ++ (s.iris.host.map HostIris.slot).toList
  s.zoom.holder ≠ .recall ∧ s.focus.holder ≠ .recall ∧ s.iris.holder ≠ .recall
    ∧ (s.focus.state = .idle ∨ s.focus.state = .moving)
    ∧ (n :: slots).Nodup ∧ ∀ m ∈ slots, s.unit.slots[m].state = .running

/-- The claims of a recall of the entry `e`, which the request of slot `n` started, made in the state `u`, with the
focus IDLE or MOVING. The operator's hold refuses a claim: the recall ends PREEMPTED with its entry on the stack, the
claims made before it are withdrawn, and those after it are not made (R41, R51, R56, R72, R73). Without such a hold
each claim takes its axis, tracking and host requests included, and the moves have begun where every axis has to move.
A host request in progress on an axis that is claimed completes PREEMPTED with the axis's value, an absent one as 0
(log 18). The order of the claims and of the completions is the model's reading (logs 37, 62). -/
def claimsMade (n : Fin 32) (e : Shot) (adjusted : Bool) (u t : State) : Prop :=
  let refused : State → State := answered n .preempted (recallBytes u.shots.depth e)
  let zoomOver : State → State := hostPreempted (u.zoom.host.map HostZoom.slot) (field16 (u.zoom.z.getD 0))
  let focusOver : State → State := hostPreempted (u.focus.host.map HostFocus.slot) (field16 (u.focus.pos.getD 0))
  let irisOver : State → State := hostPreempted (u.iris.host.map HostIris.slot) [byteOf (u.iris.pos.getD 0)]
  let letGo (z : Zoom) : Prop := z.holder = .none ∧ z.host = none ∧ z.recallClaim = none ∧ z.demand = 0
    ∧ z.z = u.zoom.z
  let moves : Prop :=
    (∀ z, u.zoom.z = some z →
      4 < ((clampNat u.zoom.softMin u.zoom.softMax e.z : Nat) - (z : Int)).natAbs)
    ∧ u.focus.pos ≠ some (min e.focus u.focus.near)
    ∧ u.iris.target ≠ none ∧ (u.iris.holder = .none ∨ u.iris.target ≠ some e.iris)
  (u.zoom.holder = .operator → t = refused u)
    ∧ (u.zoom.holder ≠ .operator → u.focus.holder = .operator →
        letGo t.zoom ∧ t.unit = (refused (zoomOver u)).unit
        ∧ t = { u with zoom := t.zoom, unit := t.unit, events := t.events })
    ∧ (u.zoom.holder ≠ .operator → u.focus.holder ≠ .operator → u.iris.holder = .operator →
        letGo t.zoom ∧ t.focus.holder = .none ∧ t.focus.host = none ∧ t.focus.pos = u.focus.pos
        ∧ (∀ p, u.focus.pos = some p → t.focus.target = min p u.focus.near)
        ∧ t.unit = (refused (focusOver (zoomOver u))).unit
        ∧ t = { u with
            zoom := t.zoom, focus := t.focus, track := { u.track with lag := t.track.lag }
            unit := t.unit, events := t.events })
    ∧ (u.zoom.holder ≠ .operator → u.focus.holder ≠ .operator → u.iris.holder ≠ .operator → moves →
        movesBegun (.request n) e adjusted u t
        ∧ t.zoom.host = none ∧ t.focus.host = none ∧ t.iris.host = none
        ∧ t.unit = (irisOver (focusOver (zoomOver (running n u)))).unit)

/-- A recall that the press timing takes, `u` being the state in which the timing has stopped: while an operation is
in flight it is BUSY and does nothing, an empty stack latches SHOT_STACK, a spill entry is read, and from the banks
the moves begin on free axes (R72, R74). -/
def pressRecalled (u t : State) : Prop :=
  (u.shots.op ≠ none → t = { u with events := t.events })
    ∧ (u.shots.op = none → u.shots.spill = 0 → u.shots.banks = [] →
        (isMuted .shotStack u = false → isLatched .shotStack t = true) ∧ t = { u with events := t.events })
    ∧ (u.shots.op = none → 0 < u.shots.spill → t = { u with
        events := t.events
        shots := { u.shots with
          op := some (.reading .press)
          transfers := u.shots.transfers
            ++ [⟨u.unit.workBase.toNat + 0x4000 + 32 * (u.shots.spill - 1), none, true⟩] } })
    ∧ ∀ e older, u.shots.op = none → u.shots.spill = 0 → u.shots.banks = older ++ [e] → axesFree e u →
        movesBegun .press e false u t

/-- An operator press outside the REC guard starts the guard of 500 ms and acts by the record state: a start from
OPERATOR, a stop with reason OPERATOR, a restart flag set or cleared, or a start abandoned (R112, R114). The pending
start that ends completes PREEMPTED. -/
def pressActed (s t : State) : Prop :=
  let guarded : Recorder := { s.recorder with guardTimer := some 13500000 }
  let idle : Prop := s.recorder.state = .standby ∨ s.recorder.state = .prerec
  let ready : Prop := s.cardA.state = .ready ∨ s.cardB.state = .ready
  let stops : Prop :=
    (s.recorder.state = .recording ∧ s.recorder.pendingStop ≠ none) ∨ s.recorder.state = .stopping
  let preempted (t : State) : Prop := t.recorder.pendingStart = none
    ∧ ∀ m, s.recorder.pendingStart = some (.request m) → s.unit.slots[m].state = .running →
        t.unit = (answered m .preempted (List.replicate 9 0) s).unit
  t.recorder.guardTimer = some 13500000
    ∧ ((s.recorder.state = .halted ∨ (idle ∧ (s.recorder.powerEmpty = true ∨ ¬ready))
          ∨ (stops ∧ s.recorder.restart = false ∧ s.recorder.powerEmpty = true)) →
        t.recorder = guarded ∧ t.unit = s.unit)
    ∧ (idle → s.recorder.powerEmpty = false → ready →
        t.recorder = { guarded with state := .arming, pulse := none, pendingStart := some .operator }
          ∧ t.unit = s.unit ∧ (isMuted .recState s = false → isLatched .recState t = true))
    ∧ (s.recorder.state = .arming → s.recorder.held = [] → preempted t ∧ t.recorder.held = []
        ∧ t.recorder.state = (if 0 < s.recorder.limit ∧ s.clock.mode = .freeRun then .prerec else .standby)
        ∧ (isMuted .recState s = false → isLatched .recState t = true))
    ∧ (s.recorder.state = .recording → s.recorder.pendingStop = none →
        t.recorder = { guarded with pendingStop := some .operator } ∧ t.unit = s.unit)
    ∧ (stops → s.recorder.restart = false → s.recorder.powerEmpty = false →
        t.recorder = { guarded with restart := true, pendingStart := some .operator } ∧ t.unit = s.unit)
    ∧ (stops → s.recorder.restart = true → s.recorder.after = [] →
        preempted t ∧ t.recorder = { guarded with restart := false, pendingStart := none })

/-- A debounced edge of line `i` is delivered: the debounced level and the raw level are the edge's, the timer is
stopped, and an edge in an enabled direction writes the line-edge record and latches LINE_EDGE; the other lines keep
their state (R21, R23). The owners of the buttons and of FOCUS_HOME act: a HANDLE_REC RISE outside the REC guard is an
operator press (R114), a SHOT_BUTTON edge is a press or a release of the press timing from the line (R74), and a
FOCUS_HOME RISE in REFERENCING finds home (R50); any other edge of these three lines has no further effect. -/
def edgeDelivered (i : Fin 7) (rising : Bool) (s t : State) : Prop :=
  let enabled := if rising then s.lines[i].riseEnable else s.lines[i].fallEnable
  let seen : State := { s with lines := t.lines, events := t.events }
  let released : State := { s with lines := t.lines, shots := { s.shots with press := none } }
  t.lines = put s.lines i { s.lines[i] with
      raw := rising, debounced := rising, timer := none
      edge := if enabled then some ⟨rising, stampNow s⟩ else s.lines[i].edge }
    ∧ (enabled = true → isMuted .lineEdge s = false → isLatched .lineEdge t = true)
    ∧ (i = 4 → (rising = false ∨ s.recorder.guardTimer ≠ none) → t = seen)
    ∧ (i = 4 → rising = true → s.recorder.guardTimer = none →
        pressActed s t ∧ t = { seen with recorder := t.recorder, unit := t.unit })
    ∧ (i = 5 → rising = true → t = { seen with shots := { s.shots with
        press := if s.shots.press = none then some ⟨.line, some 27000000, false⟩ else s.shots.press } })
    ∧ (i = 5 → rising = false → s.shots.press = none → t = seen)
    ∧ (∀ p, i = 5 → rising = false → s.shots.press = some p →
        (p.source = .viewfinder → t = seen)
        ∧ (p.source = .line → p.pushed = true → t = { seen with shots := { s.shots with press := none } })
        ∧ (p.source = .line → p.pushed = false → pressRecalled released t))
    ∧ (i = 6 → (rising = false ∨ s.focus.state ≠ .referencing) → t = seen)
    ∧ (i = 6 → rising = true → s.focus.state = .referencing →
        t.focus = { s.focus with state := .idle, pos := some 0, target := 0, refSteps := 0, phase := 0 }
          ∧ t.track = { s.track with
              lag := 0
              d := match s.track.table with
                | some table => inverseD table (s.zoom.z.getD 0) 0
                | none => s.track.d }
          ∧ t = { seen with focus := t.focus, track := t.track, zoom := t.zoom })
    ∧ t.clock = s.clock ∧ t.scan = s.scan ∧ t.power = s.power ∧ t.audio = s.audio ∧ t.vf = s.vf ∧ t.mem = s.mem

/-- Step 1 of a gyro sample: the rate, the code less the bias in whole codes (R82). -/
def sampleRate (a : Axis) (code : BitVec 12) (s : State) : Int :=
  code.toNat - ((s.stab.axis a).bias + 128).tdiv 256

/-- A quotient rounded to the nearest whole number, a half away from zero. -/
def nearest (p : Int) (q : Nat) : Int := p.sign * (((p.natAbs + q / 2) / q : Nat) : Int)

/-- Steps 3 and 4 of a gyro sample: the accumulator after the leak and the rate outside the dead band (R83). -/
def sampleAngle (a : Axis) (code : BitVec 12) (s : State) : Int :=
  let old := s.stab.axis a
  let r := sampleRate a code s
  let eff : Int := if r.natAbs ≤ s.stab.deadBand then 0 else r
  let leak : Nat := if old.inPan then s.stab.panLeak else s.stab.leak
  old.acc - nearest (old.acc * leak) 65536 + 256 * eff

/-- Step 5 of a gyro sample: c = round(f × A / 128,000,000) (R84). -/
def sampleShift (a : Axis) (code : BitVec 12) (s : State) : Int :=
  nearest (s.stab.focal * sampleAngle a code s) 128000000

/-- Steps 1 to 6 of a gyro sample of an axis, in the rules' own quantities: the drive is −c where c lies within the
stroke limit, and stands at the stroke limit with A rewritten where it does not; the bias is tracked on an axis that
is not in pan at a rate below 20, and a saturation start latches STAB_SATURATION (R82 to R85). The code is kept as the
axis's last one and the channel's, the other axis keeps its values, and so do the mode and the blocks that take no
gyro code. -/
def sampleComputed (a : Axis) (code : BitVec 12) (s t : State) : Prop :=
  let old := s.stab.axis a
  let new := t.stab.axis a
  let c := sampleShift a code s
  (c.natAbs ≤ s.stab.stroke → new.drive = -c ∧ new.acc = sampleAngle a code s ∧ new.saturated = false)
    ∧ (s.stab.stroke < c.natAbs → new.drive = -(c.sign * s.stab.stroke)
        ∧ new.acc = c.sign * ((s.stab.stroke * 128000000 / s.stab.focal : Nat) : Int) ∧ new.saturated = true
        ∧ (old.saturated = false → isMuted .stabSaturation s = false → isLatched .stabSaturation t = true))
    ∧ new.bias = (if old.inPan = false ∧ (sampleRate a code s).natAbs < 20
        then old.bias + (256 * (code.toNat : Int) - old.bias).tdiv 1024 else old.bias)
    ∧ new.last = some code.toNat
    ∧ (∀ b : Axis, b ≠ a → t.stab.axis b = s.stab.axis b) ∧ t.stab.mode = s.stab.mode
    ∧ t.scan.grants = s.scan.grants ∧ t.clock = s.clock ∧ t.lines = s.lines ∧ t.power = s.power
    ∧ t.zoom = s.zoom ∧ t.recorder = s.recorder ∧ t.unit = s.unit ∧ t.vf = s.vf ∧ t.mem = s.mem

/-- Step 7 of a gyro sample of an axis: the rate count of samples at or above the pan threshold, the saturated count
of step 6, and the pan entry at a rate count of 40, a saturated count of 200 or a code at the end of its range; in pan
both go on counting, held at 40 and 200, and the 200th quiet sample leaves pan with every count at 0 (R85, R86). -/
def panDetected (a : Axis) (code : BitVec 12) (s t : State) : Prop :=
  let old := s.stab.axis a
  let new := t.stab.axis a
  let r := (sampleRate a code s).natAbs
  let ends : Prop := code = 0 ∨ code = 4095
  let rates : Nat := if s.stab.panThreshold ≤ r then min (old.rateCount + 1) 40 else 0
  let saturations : Nat :=
    if s.stab.stroke < (sampleShift a code s).natAbs then min (old.satCount + 1) 200 else 0
  let quiets : Nat := if r < 100 ∧ ¬ends then min (old.quietCount + 1) 200 else 0
  (old.inPan = false →
      new.rateCount = rates ∧ new.satCount = saturations
        ∧ ((rates = 40 ∨ saturations = 200 ∨ ends) → new.inPan = true ∧ new.quietCount = 0)
        ∧ (rates ≠ 40 → saturations ≠ 200 → ¬ends → new.inPan = false ∧ new.quietCount = old.quietCount))
    ∧ (old.inPan = true →
      (quiets = 200 → new.inPan = false ∧ new.rateCount = 0 ∧ new.satCount = 0 ∧ new.quietCount = 0)
        ∧ (quiets ≠ 200 → new.inPan = true ∧ new.rateCount = rates ∧ new.satCount = saturations
          ∧ new.quietCount = quiets))

/-! ### The record engine's shared effects -/

/-- The state goes to an idle state with the held list `before`, of which `after` is kept: in PREREC, the idle state of
a limit above 0 in FREE_RUN, the oldest extents leave while the frames of the list are above the limit, and in STANDBY
the whole list leaves. Every extent that leaves has its outcome; where one leaves alone, of a request of one extent that
no other claim holds, that request completes DISCARDED (R111, R114, R119, R124). -/
def idleKeeps (limit : Nat) (before after : List Extent) (s t : State) : Prop :=
  let frames (l : List Extent) : Nat := (l.map Extent.frames).sum
  let prerec : Prop := 0 < limit ∧ s.clock.mode = .freeRun
  (¬prerec → after = [])
    ∧ ∃ k, after = before.drop k
      ∧ (prerec → frames after ≤ limit ∧ ∀ j, j < k → limit < frames (before.drop j))
      ∧ (∀ e ∈ before.take k, ∀ x, essenceExtent e.slot e.place t = some x → x.outcome ≠ none)
      ∧ ∀ (m : Fin 32) (e : Extent), before.take k = [e] → e.slot = m → e.place = 0 →
          s.recorder.essences = [⟨m, 1, [⟨none, 0, none, .none, .none⟩]⟩] →
          s.recorder.pendingStart ≠ some (.request m) → s.unit.slots[m].state = .running →
          t.recorder.essences = []
          ∧ ⟨m, s.unit.workBase, .discarded, [3, 0, 0], none, true⟩ ∈ t.unit.completions

/-- The entries of a write queue for extents that follow one another from a block on (R101). -/
def queuedFrom (first : Nat) : List Extent → List QueueEntry
  | [] => []
  | e :: rest =>
    let blocks := (e.length + 65535) / 65536
    ⟨e, first, blocks⟩ :: queuedFrom (first + blocks) rest

/-- A clip has opened on the cards of `cards` with the held extents handed over to each of them, all with room: the
record of the clip at the end of the table, its start label the frame's label less the held frames, the cards ACTIVE
with the held extents queued, each such extent QUEUED there in the essence records, and the start completed OK with the
clip number, the start label and the held frames (R110, R112, R117, R101, R120). A MIRROR clip on one card is DEGRADED
with the missing card as the mark's detail. An AUDIO_OVER mark may follow within the frame start (log 5). -/
def clipOpened (cards : List CardSlot) (s t : State) : Prop :=
  let held := s.recorder.held
  let frames : Nat := (held.map Extent.frames).sum
  let blocks : Nat := (held.map fun e => (e.length + 65535) / 65536).sum
  let first (c : CardSlot) : Nat := (card c s).committed + (card c s).reserved
  let start := addFrames s.clock.rate s.clock.drop t.clock.label (-(frames : Int))
  let queue (c : CardSlot) : List QueueEntry := (card c s).queue ++ queuedFrom (first c) held
  (∃ k, t.recorder.clips = (if 32 ≤ s.recorder.clips.length then s.recorder.clips.tail else s.recorder.clips) ++ [k]
      ∧ k = {
        serial := s.recorder.opened, number := s.recorder.nextClip, state := .opened, start := start
        endLabel := none, frames := frames + 1
        spans := cards.map fun c => ⟨c, if held = [] then none else some (first c), 0⟩
        marks := k.marks, preRecord := decide (0 < frames)
        degraded := s.recorder.mirror && decide (cards.length = 1), marksFull := false
        indexLostA := false, indexLostB := false, erased := false, reason := none }
      ∧ (k.marks.filter fun m => m.kind != .audioOver) = (match s.recorder.mirror, cards with
        | true, [c] => [⟨.degraded, frames, some (if c = .a then 1 else 0)⟩]
        | _, _ => []))
    ∧ t.recorder = { s.recorder with
        state := .recording, clips := t.recorder.clips, essences := t.recorder.essences, held := []
        nextClip := if 9999 ≤ s.recorder.nextClip then 1 else s.recorder.nextClip + 1
        opened := s.recorder.opened + 1, pendingStart := none
        targetA := cards.contains .a, targetB := cards.contains .b }
    ∧ (∀ c ∈ cards, card c t = { card c s with
        state := .active, reserved := (card c s).reserved + blocks, queue := queue c
        op := if held = [] then (card c s).op
          else (card c s).op.or
            ((queue c).head?.map fun x => ⟨.blockWrite, 6750000, x.blocks - 1, none, true⟩) }
      ∧ (isMuted (cardClass c) s = false → isLatched (cardClass c) t = true))
    ∧ (∀ c, cards.contains c = false → card c t = card c s)
    ∧ (∀ e ∈ held, ∀ x, essenceExtent e.slot e.place s = some x → essenceExtent e.slot e.place t = some { x with
        sideA := if cards.contains .a then .queued else x.sideA
        sideB := if cards.contains .b then .queued else x.sideB
        clip := s.recorder.nextClip, record := some s.recorder.opened })
    ∧ (∀ n place, (∀ e ∈ held, e.slot = n → e.place ≠ place) → essenceExtent n place t = essenceExtent n place s)
    ∧ ((∀ m, s.recorder.pendingStart ≠ some (.request m)) → t.unit = s.unit)
    ∧ (∀ m, s.recorder.pendingStart = some (.request m) → s.unit.slots[m].state = .running →
        t.unit = (answered m .ok (field16 s.recorder.nextClip ++ labelBytes start ++ field24 frames) s).unit)
    ∧ (isMuted .recState s = false → isLatched .recState t = true)
    ∧ (s.clock.mode = .recRun → t.clock.recorded = true)
    ∧ ∀ i : Fin 4, t.cues[i] = { s.cues[i] with firedClip := false }

/-- The clip with DEGRADED set and a DEGRADED mark that has the lost card as its detail, or MARKS_FULL where it has 16
marks already (R122, R123, R127). -/
def Clip.degradedBy (c : CardSlot) (k : Clip) : Clip :=
  if k.marks.length < 16 then
    { k with degraded := true, marks := k.marks ++ [⟨.degraded, k.frames - 1, some (if c = .a then 0 else 1)⟩] }
  else { k with degraded := true, marksFull := true }

/-- The only extent of a request is returned by the card `c` while nothing of it is queued on the other card: it is
settled, written where the other side is WRITTEN and else LOST, and its request completes (R122, R123, R124). -/
def returnSettled (c : CardSlot) (e : Extent) (s t : State) : Prop :=
  let d := otherCard c
  ∀ (n : Fin 32) (x : EssenceExtent), s.recorder.essences = [⟨n, 1, [x]⟩] → e.slot = n → e.place = 0 →
    x.outcome = none → x.side d ≠ .queued → s.unit.slots[n].state = .running →
    t.recorder.essences = []
    ∧ t.unit = (if x.side d = .written then answered n .ok ((if d = .a then 0 else 1) :: field16 x.clip) s
        else answered n .partially (4 :: field16 x.clip) s).unit

/-- The clip `k` breaks: it is BROKEN and the state HALTED, with no target card, no pending stop, no restart, no
stopping phase and the held and after-stop lists emptied; the stop request completes MEDIA_FAULT, an absent end label
and reason as 0 (R126; log 18). -/
def clipBroken (k : Clip) (s t : State) : Prop :=
  t.recorder.state = .halted ∧ openClip t = none ∧ { k with state := .broken } ∈ t.recorder.clips
    ∧ t.recorder.targetA = false ∧ t.recorder.targetB = false ∧ t.recorder.pendingStop = none
    ∧ t.recorder.restart = false ∧ t.recorder.phase = none ∧ t.recorder.held = [] ∧ t.recorder.after = []
    ∧ (isMuted .recState s = false → isLatched .recState t = true)
    ∧ ∀ m, s.recorder.stopReq = some m → s.recorder.pendingStart = none → s.recorder.essences = [] →
        s.unit.slots[m].state = .running → k.endLabel = none → t.recorder.stopReq = none
        ∧ t.unit = (answered m .mediaFault (field16 k.number ++ field24 k.frames ++ [0, 0, 0, 0]
            ++ [BitVec.ofNat 8 ((k.reason.map StopReason.code).getD 0)]) s).unit

/-- The loss of the target card `c` of the clip `k` in RELAY, with the extent `e` returned. With the other slot READY
and fewer than 8 spans, that card is selected, with a new span, a RELAY mark and RELAY latched: where it has room it
takes the extent, and where it has none it is FULL or PROTECTED and no target, the extent is LOST, the clip DEGRADED
by the lost card, and a stop with reason MEDIA_FULL pending. With the other slot not READY, or 8 spans, the clip is
BROKEN and the extent LOST (R101, R122, R126). -/
def lostByRelay (c : CardSlot) (e : Extent) (k : Clip) (s t : State) : Prop :=
  let d := otherCard c
  let blocks := (e.length + 65535) / 65536
  let first := (card d s).committed + (card d s).reserved
  let free := (card d s).capacity - (card d s).committed - (card d s).reserved
  ((card d s).state = .ready → k.spans.length < 8 → blocks ≤ free →
    (card d s).queue.length < 512 → k.marks.length < 16 →
    isTarget c t = false ∧ isTarget d t = true ∧ (card d t).state = .active
      ∧ (card d t).queue = (card d s).queue ++ [⟨e, first, blocks⟩]
      ∧ (card d t).reserved = (card d s).reserved + blocks
      ∧ openClip t = some { k with
          spans := k.spans ++ [⟨d, some first, 0⟩], marks := k.marks ++ [⟨.relay, k.frames - 1, none⟩] }
      ∧ (isMuted .relay s = false → isLatched .relay t = true)
      ∧ t.recorder.state = .recording ∧ t.recorder.pendingStop = s.recorder.pendingStop ∧ t.unit = s.unit)
  ∧ ((card d s).state = .ready → k.spans.length < 8 → free < blocks → k.marks.length < 16 →
    s.recorder.pendingStop = none →
    isTarget c t = false ∧ isTarget d t = false
      ∧ ((card d t).state = .full ∨ ((card d t).state = .protect ∧ isProtected d s = true))
      ∧ (card d t).queue = (card d s).queue ∧ (card d t).reserved = (card d s).reserved
      ∧ openClip t = some (Clip.degradedBy c { k with
          spans := k.spans ++ [⟨d, none, 0⟩], marks := k.marks ++ [⟨.relay, k.frames - 1, none⟩] })
      ∧ (isMuted .relay s = false → isLatched .relay t = true)
      ∧ t.recorder.state = .recording ∧ t.recorder.pendingStop = some .mediaFull ∧ returnSettled c e s t)
  ∧ ((card d s).state ≠ .ready ∨ 8 ≤ k.spans.length →
    clipBroken k s t ∧ (s.recorder.stopReq = none → s.recorder.pendingStart = none → returnSettled c e s t))

/-! ### Invariants -/

/-- The slots that are queued for fetch, with the one whose fetch is in flight first (R179). -/
def SlotUnit.toFetch (u : SlotUnit) : List (Fin 32) := u.fetching.toList ++ u.fetchQueue

/-- The slots whose completion writes are still owed to them (R181). -/
def SlotUnit.toFinish (u : SlotUnit) : List (Fin 32) := (u.completions.filter Completion.live).map Completion.slot

/-- A bit of the DONE latch is set only while its slot is DONE (R178); the slots to fetch are POSTED, those in a
lane queue wait there for that lane, those owed completion writes are in progress, and no list names a slot
twice (R178 to R181). -/
def State.SlotsConsistent (s : State) : Prop :=
  (∀ n : Fin 32, s.unit.done.getLsbD n.val = true → s.unit.slots[n].state = .done)
    ∧ (∀ n ∈ s.unit.toFetch, s.unit.slots[n].state = .posted) ∧ s.unit.toFetch.Nodup
    ∧ (∀ l : LaneId, ∀ n ∈ s.unit.lanes[laneIndex l],
        s.unit.slots[n].state = .waiting ∧ slotLane n s.unit = some l)
    ∧ (∀ l : LaneId, s.unit.lanes[laneIndex l].Nodup)
    ∧ (∀ n ∈ s.unit.toFinish, s.unit.slots[n].state = .completing) ∧ s.unit.toFinish.Nodup

/-- ALERT is asserted exactly while a latched class has a level above the alert level, or the DONE latch is
not zero with DONE_ALERT 1 (R173). -/
def State.AlertFollows (s : State) : Prop := s.events.alert = alertCondition s.events s.unit

/-- The unit's label and a pending preset are valid labels of the format in force, and drop mode is ON only at
a frame rate code that has it (R11, R15, R16). -/
def Clock.LabelsValid (c : Clock) : Prop :=
  c.label.valid c.rate c.drop = true ∧ (c.drop = true → c.rate.dropCount.isSome = true)
    ∧ ∀ p, c.preset = some p → p.label.valid c.rate c.drop = true

/-- The target is addressed for writing, or holds the clock on a written byte. -/
def TargetState.writes : TargetState → Bool
  | .addressedWrite => true | .holdWrite _ => true
  | .idle => false | .addressedRead => false | .holdRead => false | .ignore => false

/-- While the viewfinder is ABSENT, the rocker stands at 0, no local hold runs, no button is held and no byte waits
to be decoded (R158); the target takes written bytes only within a write transaction (R150). -/
def Viewfinder.Withdrawn (v : Viewfinder) : Prop :=
  (v.target.writes = true → v.writing = true)
    ∧ (v.present = false → v.rocker = 0 ∧ v.zoomHold = .none ∧ v.focusHold = none ∧ v.irisHold = none
        ∧ v.buttons = ⟨false, false, false, false⟩ ∧ v.fifo = [] ∧ v.heldMarks = []
        ∧ v.decoder = .atType ∧ v.writing = false)

/-- The viewfinder block's state stays in the ranges of R149. -/
def Viewfinder.InRange (v : Viewfinder) : Prop :=
  (0x08 ≤ v.address ∧ v.address ≤ 0x77) ∧ v.pointer ≤ 63 ∧ v.fifo.length ≤ 16 ∧ v.keys.length ≤ 8
    ∧ v.drops ≤ 255 ∧ v.version ≤ 255 ∧ v.text.length = 24 ∧ v.overruns ≤ 65535 ∧ v.errors ≤ 65535
    ∧ (-127 ≤ v.rocker ∧ v.rocker ≤ 127)

/-- A spill write of a push is in flight. -/
def Shots.pushing (h : Shots) : Bool :=
  match h.op with
  | some (.push _) => true
  | some (.reading _) => false
  | some (.moving _) => false
  | none => false

/-- The shot stack holds at most eight internal banks and 32 entries in all, spills only with the banks full, and
has room for the entry of a push whose spill write is in flight (R69, R70). -/
def Shots.InRange (h : Shots) : Prop :=
  h.banks.length ≤ 8 ∧ h.depth ≤ 32 ∧ (h.spill > 0 → h.banks.length = 8)
    ∧ (h.pushing = true → h.banks.length = 8 ∧ h.depth < 32)

/-- The codec write queue holds at most one item for each pair of channel and item, and so at most 12 (R145). -/
def Audio.QueueInRange (a : Audio) : Prop :=
  a.queue.Pairwise (fun x y => x.samePair y = false) ∧ a.queue.length ≤ 12

/-- At most one clip record is OPEN or CLOSING, and in a state other than REC and STOPPING there is none, and no target
card (R109, R110). -/
def Recorder.OneOpenClip (r : Recorder) : Prop :=
  (r.clips.filter fun k => k.state.inProgress).length ≤ 1
    ∧ (r.state ≠ .recording → r.state ≠ .stopping →
      (∀ k ∈ r.clips, k.state.inProgress = false) ∧ r.targetA = false ∧ r.targetB = false)

/-- Each axis drive stays within the stroke limit, and is 0 in OFF, SETTLING, HELD and CALIBRATING (R85). -/
def Stab.DriveInRange (b : Stab) : Prop :=
  b.yaw.drive.natAbs ≤ b.stroke ∧ b.pitch.drive.natAbs ≤ b.stroke
    ∧ (b.state.computes = false → b.yaw.drive = 0 ∧ b.pitch.drive = 0)

end Sys2Proof.Machine
end

