-- ==== Sys2Proof/Certificates/Slice0/Obligations.lean ====
section
/-! DEFINITION. The statements about the CB5. -/

open Sys2Proof Sys2Proof.Machine

/-! ### The machine as a whole -/

/-- A step of the CB5 with a command at the front of its queue is that command's execution on the state with the
queue's rest. -/
def Obligations.StepRunsFrontCommand : Prop :=
  ∀ (c : Instr) (s : State), step { s with pending := c :: s.pending } = exec c s

/-- With no command waiting, a step runs the command that the part's own state makes due, and passes one tick
when none is (the model's choice, log 2). A tick moves the frame counter on by one, or makes the frame start due where
the counter has reached the period in force less 1 (R2); the scan frame timer moves on in the same way, 13,500 ticks
to a scan frame (R25); the PWM period counter counts 1024 ticks, and the pins take the duty and the direction at its
start (R47); the interval timer and the watchdog count up (R4, R6), a stepping focus counts its steps per ms (R50,
R51), and every running timer has one tick less to run. An operation on a card link has one tick less, or has the next
block of a BLOCK_WRITE sent, as a free value says (log 22). Nothing else changes. -/
def Obligations.IdleStepRunsWhatIsDue : Prop :=
  ∀ s : State, s.pending = [] →
    (∀ c, dueCommand s = some c → step s = exec c (useFree 1 s))
    ∧ (dueCommand s = none → step s = .next (tick s))
    ∧ (dueCommand s = none → ∃ t, step s = .next t
      ∧ t.clock = { s.clock with
          counter := if s.clock.counter + 1 < s.clock.period then s.clock.counter + 1 else s.clock.counter
          frameDue := decide (s.clock.period ≤ s.clock.counter + 1)
          prevEdge := s.clock.prevEdge.map (fun n => min (n + 1) (2 * s.clock.rate.period))
          watchdog := s.clock.watchdog.map (fun n => n + 1) }
      ∧ t.scan = { s.scan with
          timer := if s.scan.timer + 1 < 13500 then s.scan.timer + 1 else s.scan.timer
          due := decide (13500 ≤ s.scan.timer + 1) }
      ∧ t.zoom = { s.zoom with
          host := t.zoom.host, pwmCount := (s.zoom.pwmCount + 1) % 1024
          dutyPin := if (s.zoom.pwmCount + 1) % 1024 = 0 then s.zoom.duty else s.zoom.dutyPin
          dirPinTele := if (s.zoom.pwmCount + 1) % 1024 = 0 then s.zoom.dirTele else s.zoom.dirPinTele }
      ∧ (s.zoom.host = none → t.zoom.host = none)
      ∧ (∀ n dest v adjusted, s.zoom.host = some ⟨n, .move dest v, adjusted⟩ → t.zoom.host = s.zoom.host)
      ∧ (∀ n v left adjusted, s.zoom.host = some ⟨n, .speed v left, adjusted⟩ →
          t.zoom.host = some ⟨n, .speed v (left - 1), adjusted⟩)
      ∧ (∀ i : Fin 7, t.lines[i] = { s.lines[i] with timer := s.lines[i].timer.map (fun n => n - 1) })
      ∧ t.focus = { s.focus with phase := s.focus.phase
          + (if s.focus.state = .referencing then 4 else if s.focus.state = .moving then s.focus.rate else 0) }
      ∧ t.shots = { s.shots with
          press := s.shots.press.map fun p => { p with timer := p.timer.map (fun n => n - 1) } }
      ∧ (∀ c : CardSlot, card c t = { card c s with op := (card c t).op }
        ∧ ((card c s).op = none → (card c t).op = none)
        ∧ ∀ o, (card c s).op = some o → (card c t).op = some { o with left := o.left - 1 }
          ∨ (o.kind = .blockWrite ∧ 0 < o.unsent
            ∧ (card c t).op = some { o with left := 6750000, unsent := o.unsent - 1 }))
      ∧ t.recorder = { s.recorder with
          guardTimer := s.recorder.guardTimer.map (fun n => n - 1), pulse := s.recorder.pulse.map (fun n => n - 1) }
      ∧ t.audio = { s.audio with
          gap := min (s.audio.gap + 1) 27000, recovery := s.audio.recovery.map (fun n => min (n + 1) 270000) }
      ∧ t.vf = { s.vf with
          holdTimer := s.vf.holdTimer.map (fun n => n - 1), presence := s.vf.presence.map (fun n => n - 1)
          focusHold := s.vf.focusHold.map (fun n => n - 1), irisHold := s.vf.irisHold.map (fun n => n - 1)
          zoomHold := t.vf.zoomHold, build := t.vf.build }
      ∧ (∀ left, s.vf.zoomHold = .timing left → t.vf.zoomHold = .timing (left - 1))
      ∧ ((∀ left, s.vf.zoomHold ≠ .timing left) → t.vf.zoomHold = s.vf.zoomHold)
      ∧ (∀ left, s.vf.build = .building left → t.vf.build = .building (left - 1))
      ∧ ((∀ left, s.vf.build ≠ .building left) → t.vf.build = s.vf.build)
      ∧ t = { s with
          clock := t.clock, lines := t.lines, scan := t.scan, zoom := t.zoom, focus := t.focus, shots := t.shots
          cardA := t.cardA, cardB := t.cardB, freeCount := t.freeCount, recorder := t.recorder, audio := t.audio
          vf := t.vf })

/-- Every command answers a next state, and no command touches the queue of waiting commands: the CB5 has no
command that stops it. Only the end of a fetch, of completion writes and of a spill write change a byte of main
memory; every other command leaves every byte as it was (R71, R179, R181; log 10). -/
def Obligations.EveryCommandAnswersNext : Prop :=
  (∀ (c : Instr) (s : State), ∃ t, exec c s = .next t ∧ t.pending = s.pending) ∧
  (∀ (c : Instr) (s t : State), exec c s = .next t → (∀ r w, c ≠ .fetchEnd r w) →
    (∀ w, c ≠ .completionWritesEnd w) → (∀ w, c ≠ .spillWriteEnd w) →
    ∀ a : Nat, memRead t.mem a = memRead s.mem a)

/-- A request's kind code and parameter bytes are read back as the request: for every request with well-formed
operands and at most 256 parameter bytes (R179), the reading of what it is written as is the request itself. -/
def Obligations.RequestBytesRoundTrip : Prop :=
  ∀ (i : Instr) (slot : Fin 32) (k : RequestKind) (p : List Byte), i.wellFormed = true →
    requestParts i = some (slot, k, p) → p.length ≤ 256 →
    decodeRequest slot k.code (BitVec.ofNat 16 p.length) p = some i

/-! ### Invariants that every step keeps -/

/-- The list of written bytes keeps its canonical form: a step from a state with strictly rising addresses leads
to one with strictly rising addresses (log 10). -/
def Obligations.MemoryStaysCanonical : Prop :=
  ∀ s t : State, Memory.wf s.mem = true → step s = .next t → Memory.wf t.mem = true

/-- The slot unit's books stay in order: a DONE bit stays set only while its slot is DONE (R178), and the slots
to fetch, waiting in a lane queue or owed completion writes stay in the state that says so, each named once
(R178 to R181). -/
def Obligations.SlotsStayConsistent : Prop :=
  ∀ s t : State, s.SlotsConsistent → step s = .next t → t.SlotsConsistent

/-- ALERT stays asserted exactly while its condition holds (R173). -/
def Obligations.AlertStaysTrue : Prop :=
  ∀ s t : State, s.AlertFollows → step s = .next t → t.AlertFollows

/-- The time code label and a pending preset stay valid labels of the format in force under every command (R11,
R12, R14, R15, R16). A SET_VIDEO_FORMAT in service while a preset is pending is left out: both requests run in
the SYSTEM lane, which serves one request at a time (R180), and the SET_TC that set the preset is in progress
until the preset takes effect. -/
def Obligations.LabelsStayValid : Prop :=
  ∀ (c : Instr) (s t : State), s.clock.LabelsValid →
    (s.clock.preset ≠ none → ∀ n r d, c ≠ .setVideoFormat n r d) →
    exec c s = .next t → t.clock.LabelsValid

/-- While the viewfinder is ABSENT, the operator's demands stay withdrawn (R158). -/
def Obligations.AbsentViewfinderStaysWithdrawn : Prop :=
  ∀ s t : State, s.vf.Withdrawn → step s = .next t → t.vf.Withdrawn

/-- The viewfinder block's state stays in its ranges (R149). The shot stack stays in its ranges (R69). The codec
write queue keeps at most one item for each pair of channel and item (R145). Each axis drive stays within the
stroke limit, and 0 in OFF, SETTLING, HELD and CALIBRATING (R85). -/
def Obligations.BlocksStayInRange : Prop :=
  (∀ s t : State, s.vf.InRange → step s = .next t → t.vf.InRange) ∧
  (∀ s t : State, s.shots.InRange → step s = .next t → t.shots.InRange) ∧
  (∀ s t : State, s.audio.QueueInRange → step s = .next t → t.audio.QueueInRange) ∧
  (∀ s t : State, s.stab.DriveInRange → step s = .next t → t.stab.DriveInRange)

/-- At most one clip is OPEN or CLOSING at every step, and outside REC and STOPPING there is none, and no target card
(R109, R110). -/
def Obligations.OneClipStaysOpen : Prop :=
  ∀ s t : State, s.recorder.OneOpenClip → step s = .next t → t.recorder.OneOpenClip

/-- The state after reset meets every one of these invariants. -/
def Obligations.ResetMeetsTheInvariants : Prop :=
  Memory.wf State.reset.mem = true ∧ State.reset.SlotsConsistent ∧ State.reset.AlertFollows
    ∧ State.reset.clock.LabelsValid ∧ State.reset.vf.Withdrawn ∧ State.reset.vf.InRange
    ∧ State.reset.shots.InRange ∧ State.reset.audio.QueueInRange ∧ State.reset.recorder.OneOpenClip
    ∧ State.reset.stab.DriveInRange

/-! ### Resets (R184) -/

/-- The release of RESET with all seven line pins low puts every block at its power-on value: the state after
reset, over the main memory, the last register read, the free-value counter and the queue as they were (the pins
at low are the model's choice, log 11). The release of RESET with the pins at `pins`: each line takes its pin; a
card slot whose detect pin is high is MOUNTING with a HEADER_READ of 1.5 s on its link, and is EMPTY otherwise;
the focus is at home when FOCUS_HOME is high, and is REFERENCING otherwise (R20, R50, R96); no slot is in use,
and no byte of memory changes. What the released pins are, when the first codec write starts and when the first
scan frame begins are the model's choices (logs 11 to 13). -/
def Obligations.PowerOnReset : Prop :=
  (∀ s : State, exec (.powerOnReset 0) s = .next { State.reset with
    mem := s.mem, busRead := s.busRead, freeCount := s.freeCount, pending := s.pending }) ∧
  (∀ (pins : BitVec 7) (s : State), ∃ t, exec (.powerOnReset pins) s = .next t
    ∧ (∀ i : Fin 7, t.lines[i].raw = pins.getLsbD i.val ∧ t.lines[i].debounced = pins.getLsbD i.val
        ∧ t.lines[i].timer = none)
    ∧ t.cardA = (if pins.getLsbD 0 then
        { Card.powerOn with state := .mounting, op := some ⟨.headerRead, 40500000, 0, none, true⟩ } else Card.powerOn)
    ∧ t.cardB = (if pins.getLsbD 1 then
        { Card.powerOn with state := .mounting, op := some ⟨.headerRead, 40500000, 0, none, true⟩ } else Card.powerOn)
    ∧ t.focus.state = (if pins.getLsbD 6 then .idle else .referencing)
    ∧ t.focus.pos = (if pins.getLsbD 6 then some 0 else none) ∧ t.focus.target = 0
    ∧ isLatched .cardA t = pins.getLsbD 0 ∧ isLatched .cardB t = pins.getLsbD 1
    ∧ t.events.levels = defaultLevels ∧ t.unit = SlotUnit.powerOn ∧ t.clock = Clock.powerOn
    ∧ t.mem = s.mem)

/-- A controller reset, by its own command or by a CONTROL write with RESET 1 (R176): every slot is FREE, nothing is
queued or fetched, the DONE latch, the misuse counter and the event latches are 0, ALERT is released and CONTROL has
its reset values, the frame in progress goes on at the nominal period, so that a frame start whose tick has come
stands only where the counter is at or past its end, while WORK_BASE, the format and the label, the lens tables, the
biases, Z and the last codes stay, and no byte of memory changes (R184, R1, R25, R37, R60, R77). Of the completions to
be written only the oldest, whose writes are on the bus, is let finish: its slot does not become DONE, and its label
is the one fixed for it, or else the one last delivered before the reset (the model's choice, log 8). Z itself is
kept, and not derived again from the retained code (the model's reading, log 43). -/
def Obligations.ControllerResetKeepsWhatItMust : Prop :=
  ∀ (c : Instr) (s : State), (c = .controllerReset ∨ ∃ v : BusWord, v.getLsbD 1 = true ∧ c = .controlWrite v) →
    ∃ t, exec c s = .next t
      ∧ (∀ n : Fin 32, t.unit.slots[n] = ⟨.free, none⟩)
      ∧ t.unit.fetchQueue = [] ∧ t.unit.fetching = none ∧ (∀ l : Fin 7, t.unit.lanes[l] = [])
      ∧ t.unit.done = 0 ∧ t.unit.misuse = 0 ∧ t.unit.enable = false ∧ t.unit.alertLevel = 7
      ∧ t.unit.doneAlert = true ∧ t.unit.workBase = s.unit.workBase
      ∧ t.unit.completions = (s.unit.completions.take 1).map (fun x =>
          { x with live := false, label := some (x.label.getD (deliveredLabel s)) })
      ∧ t.events.latches = 0 ∧ t.events.levels = defaultLevels ∧ t.events.alert = false
      ∧ t.clock.rate = s.clock.rate ∧ t.clock.drop = s.clock.drop ∧ t.clock.label = s.clock.label
      ∧ (s.clock.frameDue = false → t.clock.counter = s.clock.counter ∧ t.clock.frameDue = false)
      ∧ (s.clock.frameDue = true → t.clock.frameDue = decide (s.clock.rate.period ≤ s.clock.counter + 1)
          ∧ t.clock.counter = (if s.clock.rate.period ≤ s.clock.counter + 1 then s.clock.counter
              else s.clock.counter + 1))
      ∧ t.clock.period = s.clock.rate.period ∧ t.clock.slew = 0
      ∧ t.track.focal = s.track.focal ∧ t.track.table = s.track.table
      ∧ t.stab.yaw.bias = s.stab.yaw.bias ∧ t.stab.pitch.bias = s.stab.pitch.bias
      ∧ t.zoom.z = s.zoom.z ∧ t.zoom.duty = 0 ∧ t.scan.last = s.scan.last
      ∧ t.recorder = Recorder.powerOn ∧ t.mem = s.mem

/-! ### Registers (R172, R176, R177, R181) -/

/-- A CONTROL write with RESET 0 takes ENABLE, ALERT_LEVEL and DONE_ALERT, and ALERT is evaluated again; a write
to ID, DONE or EVENTS has no effect (R176). A WORK_BASE write is taken, with bits 15 to 0 as 0, when all 32
slots are FREE; otherwise it leaves the base, latches SLOT_MISUSE and counts a misuse up to 65,535 (R177). A
read of EVENTS returns the 25 latches, with the other bits 0, and clears them; a read of DONE returns the DONE
latch and clears it; each evaluates ALERT again, and neither changes a slot or a level (R172, R181). -/
def Obligations.RegistersBehave : Prop :=
  (∀ (v : BusWord) (s : State),
    (v.getLsbD 1 = false → ∃ t, exec (.controlWrite v) s = .next t ∧ t.unit = { s.unit with
        enable := v.getLsbD 0, alertLevel := (v.toNat / 16) % 16, doneAlert := v.getLsbD 8 }
      ∧ t.events = { s.events with alert := alertCondition s.events t.unit }
      ∧ t = { s with unit := t.unit, events := t.events })
    ∧ ∀ r : FixedRegister, exec (.registerWriteNoEffect r v) s = .next s) ∧
  (∀ (v : BusWord) (s : State),
    ((∀ n : Fin 32, s.unit.slots[n].state = .free) →
      exec (.workBaseWrite v) s = .next { s with unit := { s.unit with
        workBase := BitVec.ofNat 32 (v.toNat / 65536 * 65536) } })
    ∧ ((∃ n : Fin 32, s.unit.slots[n].state ≠ .free) →
      exec (.workBaseWrite v) s = .next (latch .slotMisuse { s with unit := { s.unit with
        misuse := min (s.unit.misuse + 1) 65535 } }))) ∧
  (∀ s : State,
    (∃ t, exec .eventsRead s = .next t ∧ t.busRead.toNat = s.events.latches.toNat ∧ t.events.latches = 0
      ∧ t.events.levels = s.events.levels ∧ t.events.alert = (s.unit.done != 0 && s.unit.doneAlert)
      ∧ t = { s with events := t.events, busRead := t.busRead })
    ∧ ∃ t, exec .doneRead s = .next t ∧ t.busRead = s.unit.done ∧ t.unit = { s.unit with done := 0 }
      ∧ t.events = { s.events with alert := s.events.above s.unit.alertLevel }
      ∧ t = { s with unit := t.unit, events := t.events, busRead := t.busRead })

/-! ### Posting and release (R178, R182) -/

/-- A POST write: every FREE slot it names becomes POSTED and joins the tail of the fetch queue, in ascending
order; every other slot it names counts one misuse, up to 65,535, and latches SLOT_MISUSE; nothing else changes
(R178). -/
def Obligations.PostTakesFreeSlots : Prop :=
  ∀ (v : BusWord) (s : State),
    let taken (n : Fin 32) : Bool := v.getLsbD n.val && s.unit.slots[n].state == .free
    let misused := (List.finRange 32).countP fun n => v.getLsbD n.val && s.unit.slots[n].state != .free
    let after (m : Nat) : State := { s with unit := { s.unit with
      slots := Vector.ofFn fun n => if taken n then ⟨.posted, none⟩ else s.unit.slots[n]
      fetchQueue := s.unit.fetchQueue ++ (List.finRange 32).filter taken
      misuse := m } }
    exec (.postWrite v) s = .next (if misused = 0 then after s.unit.misuse
      else latch .slotMisuse (after (min (s.unit.misuse + misused) 65535)))

/-- A RELEASE write: every DONE slot it names becomes FREE with its DONE bit cleared; every POSTED slot and
every slot waiting in a lane queue that it names becomes FREE and leaves the fetch queue, the fetch in flight
and the lane queues; every other slot it names stays as it is, counts one misuse and latches SLOT_MISUSE;
no other class latches, ALERT is evaluated again where a DONE bit is cleared or a slot misused, and nothing else of the
slot unit, the order of the lanes' requests included, and no byte of memory, changes (R182, R171, R173). -/
def Obligations.ReleaseFreesSlots : Prop :=
  ∀ (v : BusWord) (s : State),
    let freed (n : Fin 32) : Bool := v.getLsbD n.val && s.unit.slots[n].state == .done
    let withdrawn (n : Fin 32) : Bool :=
      v.getLsbD n.val && (s.unit.slots[n].state == .posted || s.unit.slots[n].state == .waiting)
    let misused := (List.finRange 32).countP fun n => v.getLsbD n.val && !freed n && !withdrawn n
    ∃ t, exec (.releaseWrite v) s = .next t
      ∧ (∀ n : Fin 32, t.unit.slots[n] = if freed n || withdrawn n then ⟨.free, none⟩ else s.unit.slots[n])
      ∧ (∀ n : Fin 32, t.unit.done.getLsbD n.val = (s.unit.done.getLsbD n.val && !freed n))
      ∧ t.unit.fetchQueue = s.unit.fetchQueue.filter (fun n => !withdrawn n)
      ∧ t.unit.fetching = s.unit.fetching.filter (fun n => !withdrawn n)
      ∧ (∀ l : Fin 7, t.unit.lanes[l] = s.unit.lanes[l].filter fun n => !withdrawn n)
      ∧ t.unit.misuse = (if misused = 0 then s.unit.misuse else min (s.unit.misuse + misused) 65535)
      ∧ (misused ≠ 0 → isMuted .slotMisuse s = false → isLatched .slotMisuse t = true)
      ∧ (∀ c : EventClass, c ≠ .slotMisuse → isLatched c t = isLatched c s)
      ∧ t.events.levels = s.events.levels
      ∧ (misused = 0 → t.events.latches = s.events.latches)
      ∧ (misused = 0 → (∀ n : Fin 32, freed n = false) → t.events = s.events)
      ∧ ((misused ≠ 0 ∨ ∃ n : Fin 32, freed n = true) → t.events.alert = alertCondition t.events t.unit)
      ∧ t = { s with events := t.events, unit := { t.unit with
          enable := s.unit.enable, alertLevel := s.unit.alertLevel, doneAlert := s.unit.doneAlert
          workBase := s.unit.workBase, completions := s.unit.completions, order := s.unit.order } }

/-! ### Fetch, lanes, completion, CANCEL (R179 to R181, R183) -/

/-- A fetch starts exactly when ENABLE is 1, the fetch queue is not empty and no fetch is in flight: the head
slot leaves the queue (R179). A lane that serves one request at a time starts its head request exactly when no
request of the lane is in progress (R180). A command that finds nothing to start changes nothing (the model's
choice, log 3). -/
def Obligations.FetchAndLaneStart : Prop :=
  (∀ (n : Fin 32) (rest : List (Fin 32)) (s : State), s.unit.enable = true → s.unit.fetching = none →
      s.unit.fetchQueue = n :: rest →
      exec .fetchStart s = .next { s with unit := { s.unit with fetchQueue := rest, fetching := some n } })
    ∧ (∀ s : State, s.unit.enable = false ∨ s.unit.fetching ≠ none ∨ s.unit.fetchQueue = [] →
      exec .fetchStart s = .next s)
    ∧ (∀ (l : LaneId) (n : Fin 32) (rest : List (Fin 32)) (s : State), laneIsSerial l = true →
      laneBusy l s.unit = false → s.unit.lanes[laneIndex l] = n :: rest →
      exec (.laneStart l) s = .next { s with unit := { s.unit with
        lanes := put s.unit.lanes (laneIndex l) rest
        slots := put s.unit.slots n { s.unit.slots[n] with state := .started } } })
    ∧ ∀ (l : LaneId) (s : State), laneIsSerial l = false ∨ laneBusy l s.unit = true
        ∨ s.unit.lanes[laneIndex l] = [] → exec (.laneStart l) s = .next s

/-- The fetch of a well-formed request, as its bytes are written, makes the slot TAKEN holding that very request:
started at once in the LENS and ESSENCE lanes and in an idle serial lane, and otherwise waiting at the tail of its
lane queue; it is the last in fetch order, and nothing else changes (R179, R180). A fetched request that fails a
check becomes DONE with its DONE bit set, and status MALFORMED with result length 0 in its slot's bytes 6 to 9 where
the writes are made; a bus error on the fetch read latches WORK_AREA_FAULT and does the same. Where the writes meet
a bus error too, the status in memory stays as it was. No byte of memory outside bytes 6 to 13 of the slot changes
(R179). That a request is in progress from the end of its fetch, that the MALFORMED writes and DONE come in one
command, and that a bus error leaves the status whole, are the model's choices (logs 7, 9 and 53). -/
def Obligations.FetchEndsByItsChecks : Prop :=
  (∀ (i : Instr) (slot : Fin 32) (k : RequestKind) (p : List Byte) (w : BusEnd) (s : State),
    i.wellFormed = true → requestParts i = some (slot, k, p) → p.length ≤ 256 → s.unit.fetching = some slot →
    let order := s.unit.order.filter (fun m => m != slot) ++ [slot]
    exec (.fetchEnd (.data k.code (BitVec.ofNat 16 p.length) p) w) s = .next (
      if laneIsSerial k.lane = false ∨ (laneBusy k.lane s.unit = false ∧ s.unit.lanes[laneIndex k.lane] = [])
      then { s with unit := { s.unit with
        fetching := none, slots := put s.unit.slots slot ⟨.started, some i⟩, order := order } }
      else { s with unit := { s.unit with
        fetching := none, slots := put s.unit.slots slot ⟨.waiting, some i⟩
        lanes := put s.unit.lanes (laneIndex k.lane) (s.unit.lanes[laneIndex k.lane] ++ [slot])
        order := order } })) ∧
  (∀ (n : Fin 32) (r : FetchEnd) (w : BusEnd) (s : State), s.unit.fetching = some n →
    (r = .error ∨ ∃ kind length p, r = .data kind length p ∧ decodeRequest n kind length p = none) →
    ∃ t, exec (.fetchEnd r w) s = .next t
      ∧ t.unit = { s.unit with
          fetching := none, slots := put s.unit.slots n ⟨.done, none⟩
          done := s.unit.done ||| BitVec.twoPow 32 n.val }
      ∧ (w = .ok → memRead t.mem (slotAddress s.unit.workBase n + 6) = some 7
          ∧ memRead t.mem (slotAddress s.unit.workBase n + 7) = some 0
          ∧ memRead t.mem (slotAddress s.unit.workBase n + 8) = some 0
          ∧ memRead t.mem (slotAddress s.unit.workBase n + 9) = some 0)
      ∧ (w ≠ .ok →
          memRead t.mem (slotAddress s.unit.workBase n + 6) = memRead s.mem (slotAddress s.unit.workBase n + 6)
          ∧ memRead t.mem (slotAddress s.unit.workBase n + 7) = memRead s.mem (slotAddress s.unit.workBase n + 7))
      ∧ (r = .error ∨ w ≠ .ok → isMuted .workAreaFault s = false → isLatched .workAreaFault t = true)
      ∧ (∀ a : Nat, (a < slotAddress s.unit.workBase n + 6 ∨ slotAddress s.unit.workBase n + 14 ≤ a) →
          memRead t.mem a = memRead s.mem a)
      ∧ t = { s with mem := t.mem, events := t.events, unit := t.unit })

/-- The writes of the oldest completion end without a bus error: its slot's bytes from 272 hold the result, bytes 6 and
7 the status, bytes 8 and 9 the result length and bytes 10 to 13 the label; no other byte changes; the slot becomes
DONE with its DONE bit set (R181). The label is the one fixed for the completion, or else the one last delivered
(R19). A bus error latches WORK_AREA_FAULT: the slot still becomes DONE with its DONE bit set, its status in memory
stays as it was, and no byte outside those of the completion changes; the writes of a completion that a controller
reset has abandoned reach the same bytes and change no slot and no latch (R181, R184), and a bus error on them
latches WORK_AREA_FAULT too (the model's reading, log 39). One command writes a completion, first in first out (the
model's choice, log 8), a bus error leaves the status whole (log 53), and memory holds what the part wrote (log 10). -/
def Obligations.CompletionWritesReachTheSlot : Prop :=
  (∀ (c : Completion) (rest : List Completion) (s : State), s.unit.completions = c :: rest →
    c.result.length ≤ 240 →
    let label := c.label.getD (deliveredLabel s)
    ∃ t, exec (.completionWritesEnd .ok) s = .next t
      ∧ (∀ (i : Nat) (h : i < c.result.length),
          memRead t.mem (slotAddress c.base c.slot + 272 + i) = some c.result[i])
      ∧ memRead t.mem (slotAddress c.base c.slot + 6) = some (BitVec.ofNat 8 c.status.code)
      ∧ memRead t.mem (slotAddress c.base c.slot + 7) = some 0
      ∧ memRead t.mem (slotAddress c.base c.slot + 8) = some (BitVec.ofNat 8 c.result.length)
      ∧ memRead t.mem (slotAddress c.base c.slot + 9) = some 0
      ∧ memRead t.mem (slotAddress c.base c.slot + 10) = some (BitVec.ofNat 8 label.hours)
      ∧ memRead t.mem (slotAddress c.base c.slot + 11) = some (BitVec.ofNat 8 label.minutes)
      ∧ memRead t.mem (slotAddress c.base c.slot + 12) = some (BitVec.ofNat 8 label.seconds)
      ∧ memRead t.mem (slotAddress c.base c.slot + 13) = some (BitVec.ofNat 8 label.frames)
      ∧ (∀ a : Nat, (a < slotAddress c.base c.slot + 6 ∨
            (slotAddress c.base c.slot + 14 ≤ a ∧ a < slotAddress c.base c.slot + 272) ∨
            slotAddress c.base c.slot + 272 + c.result.length ≤ a) → memRead t.mem a = memRead s.mem a)
      ∧ (c.live = true → t.unit = { s.unit with
          completions := rest, slots := put s.unit.slots c.slot ⟨.done, none⟩
          done := s.unit.done ||| BitVec.twoPow 32 c.slot.val }
        ∧ t.events = { s.events with alert := alertCondition s.events t.unit })
      ∧ (c.live = false → t.unit = { s.unit with completions := rest } ∧ t.events = s.events)
      ∧ t = { s with mem := t.mem, events := t.events, unit := t.unit })
  ∧ (∀ (c : Completion) (rest : List Completion) (cut : Nat) (s : State), s.unit.completions = c :: rest →
    ∃ t, exec (.completionWritesEnd (.error cut)) s = .next t
      ∧ memRead t.mem (slotAddress c.base c.slot + 6) = memRead s.mem (slotAddress c.base c.slot + 6)
      ∧ memRead t.mem (slotAddress c.base c.slot + 7) = memRead s.mem (slotAddress c.base c.slot + 7)
      ∧ (∀ a : Nat, (a < slotAddress c.base c.slot + 8 ∨
            (slotAddress c.base c.slot + 14 ≤ a ∧ a < slotAddress c.base c.slot + 272) ∨
            slotAddress c.base c.slot + 272 + c.result.length ≤ a) → memRead t.mem a = memRead s.mem a)
      ∧ (isMuted .workAreaFault s = false → isLatched .workAreaFault t = true)
      ∧ t.unit = (if c.live then { s.unit with
          completions := rest, slots := put s.unit.slots c.slot ⟨.done, none⟩
          done := s.unit.done ||| BitVec.twoPow 32 c.slot.val } else { s.unit with completions := rest })
      ∧ t = { s with mem := t.mem, events := t.events, unit := t.unit })
  ∧ ∀ (c : Completion) (rest : List Completion) (s : State), s.unit.completions = c :: rest → c.live = false →
    ∃ t, exec (.completionWritesEnd .ok) s = .next t ∧ t.unit = { s.unit with completions := rest }
      ∧ (∀ a : Nat, (a < slotAddress c.base c.slot + 6 ∨
            (slotAddress c.base c.slot + 14 ≤ a ∧ a < slotAddress c.base c.slot + 272) ∨
            slotAddress c.base c.slot + 272 + c.result.length ≤ a) → memRead t.mem a = memRead s.mem a)
      ∧ t = { s with mem := t.mem, unit := t.unit }

/-- CANCEL of a request that waits in its lane queue: the request leaves the queue and completes CANCELLED with
result length 0, and the CANCEL then completes OK with target state 2. Of a slot that is FREE, POSTED or DONE it
completes BAD_VALUE with target state 0, 1 or 4; of a request in progress that is not cancellable it completes BUSY
with target state 3; neither touches the target (R183). Of a ZOOM_MOVE, ZOOM_SPEED, FOCUS_MOVE or IRIS_SET in
progress, the request completes CANCELLED and its axis stops, with the holder NONE, the focus where it stands within
its near limit (R58, R57); of a SHOT_RECALL in its spill read or with its moves begun, the recall ends CANCELLED
with the entry still on the stack (R73); of a STAB_CALIBRATE, the calibration ends CANCELLED with the spreads so far
and the biases as they were (R90); the CANCEL then completes OK with target state 3. A target above 31 is BAD_VALUE
(R183); its result, and the bytes of the entry that was not read, are free (log 16). An absent position is reported
as 0 (the model's choice, log 18). A request in progress that its block has not yet taken ends in the same way (the
model's choice, log 40). -/
def Obligations.CancelByTargetState : Prop :=
  (∀ (n m : Fin 32) (s : State), isStarted n (.cancel n (BitVec.ofNat 8 m.val)) s = true →
    (s.unit.slots[m].state = .waiting → ∃ t, exec (.cancel n (BitVec.ofNat 8 m.val)) s = .next t
        ∧ t.unit.slots = put (put s.unit.slots m ⟨.completing, none⟩) n { s.unit.slots[n] with state := .completing }
        ∧ t.unit.completions = s.unit.completions
          ++ [⟨m, s.unit.workBase, .cancelled, [], none, true⟩,
            ⟨n, s.unit.workBase, .ok, [2], none, true⟩]
        ∧ (∀ l : Fin 7, t.unit.lanes[l] = s.unit.lanes[l].filter fun x => x != m)
        ∧ t = { s with unit := t.unit })
    ∧ (s.unit.slots[m].state = .free →
        exec (.cancel n (BitVec.ofNat 8 m.val)) s = .next (answered n .badValue [0] s))
    ∧ (s.unit.slots[m].state = .posted →
        exec (.cancel n (BitVec.ofNat 8 m.val)) s = .next (answered n .badValue [1] s))
    ∧ (s.unit.slots[m].state = .done →
        exec (.cancel n (BitVec.ofNat 8 m.val)) s = .next (answered n .badValue [4] s))
    ∧ ∀ k, (s.unit.slots[m].state = .started ∨ s.unit.slots[m].state = .running) → slotKind m s = some k →
        k.cancellable = false →
        exec (.cancel n (BitVec.ofNat 8 m.val)) s = .next (answered n .busy [3] s))
  ∧ (∀ (n m : Fin 32) (s : State), isStarted n (.cancel n (BitVec.ofNat 8 m.val)) s = true →
    s.unit.slots[m].state = .running →
    (∀ h : HostZoom, (slotKind m s = some .zoomMove ∨ slotKind m s = some .zoomSpeed) → s.zoom.holder = .host →
      s.zoom.host = some h → h.slot = m → ∃ t, exec (.cancel n (BitVec.ofNat 8 m.val)) s = .next t
        ∧ t.zoom.holder = .none ∧ t.zoom.host = none ∧ t.zoom.demand = 0 ∧ t.zoom.applied = 0
        ∧ t.unit = (answered n .ok [3] (answered m .cancelled (field16 (s.zoom.z.getD 0)) s)).unit
        ∧ t = { s with zoom := t.zoom, unit := t.unit, events := t.events })
    ∧ (∀ (h : HostFocus) (p : Nat), slotKind m s = some .focusMove → s.focus.state = .moving →
      s.focus.host = some h → h.slot = m → s.focus.pos = some p → p ≤ s.focus.near →
      ∃ t, exec (.cancel n (BitVec.ofNat 8 m.val)) s = .next t
        ∧ t.focus.holder = .none ∧ t.focus.host = none ∧ t.focus.target = p ∧ t.focus.pos = some p
        ∧ t.focus.state = .idle ∧ t.track.lag = 0
        ∧ t.unit = (answered n .ok [3] (answered m .cancelled (field16 p) s)).unit
        ∧ t.iris = s.iris ∧ t.shots = s.shots ∧ t.recorder = s.recorder ∧ t.clock = s.clock ∧ t.mem = s.mem)
    ∧ (∀ h : HostIris, slotKind m s = some .irisSet → s.iris.host = some h → h.slot = m →
      ∃ t, exec (.cancel n (BitVec.ofNat 8 m.val)) s = .next t
        ∧ t.iris.holder = .none ∧ t.iris.host = none ∧ t.iris.target = s.iris.command ∧ t.iris.settle = 0
        ∧ t.iris.pos = s.iris.pos
        ∧ t.unit = (answered n .ok [3] (answered m .cancelled [byteOf (s.iris.pos.getD 0)] s)).unit
        ∧ t = { s with iris := t.iris, unit := t.unit })
    ∧ (slotKind m s = some .shotRecall → s.shots.op = some (.reading (.request m)) →
      ∃ t free, exec (.cancel n (BitVec.ofNat 8 m.val)) s = .next t ∧ free.length = 8
        ∧ t.shots = { s.shots with op := none, transfers := t.shots.transfers }
        ∧ t.unit = (answered n .ok [3] (answered m .cancelled (byteOf s.shots.depth :: free) s)).unit
        ∧ t = { s with shots := t.shots, unit := t.unit, freeCount := t.freeCount })
    ∧ (∀ (e : Shot) (adjusted : Bool), slotKind m s = some .shotRecall →
      s.shots.op = some (.moving ⟨.request m, e, adjusted, false, false, false⟩) → s.zoom.holder = .recall →
      s.focus.holder = .recall → s.iris.holder = .recall →
      ∃ t result, exec (.cancel n (BitVec.ofNat 8 m.val)) s = .next t ∧ result.length = 9
        ∧ t.shots = { s.shots with op := none } ∧ t.zoom.holder = .none ∧ t.zoom.recallClaim = none
        ∧ t.zoom.demand = 0 ∧ t.focus.holder = .none ∧ t.iris.holder = .none ∧ t.iris.target = s.iris.command
        ∧ t.unit = (answered n .ok [3] (answered m .cancelled result s)).unit
        ∧ t.recorder = s.recorder ∧ t.clock = s.clock ∧ t.mem = s.mem)
    ∧ (∀ c : Calibration, slotKind m s = some .stabCalibrate → s.stab.cal = some c → c.slot = m →
      ∃ t, exec (.cancel n (BitVec.ofNat 8 m.val)) s = .next t
        ∧ t.stab.cal = none ∧ t.stab.state = s.stab.derived ∧ t.stab.yaw.bias = s.stab.yaw.bias
        ∧ t.stab.pitch.bias = s.stab.pitch.bias ∧ (isMuted .stabState s = false → isLatched .stabState t = true)
        ∧ t.unit = (answered n .ok [3] (answered m .cancelled
            (field16 (c.yaw.high - c.yaw.low : Nat) ++ field16 (c.pitch.high - c.pitch.low : Nat)
              ++ field32 s.stab.yaw.bias ++ field32 s.stab.pitch.bias) s)).unit
        ∧ t = { s with stab := t.stab, unit := t.unit, events := t.events }))
  ∧ (∀ (n m : Fin 32) (k : RequestKind) (s : State), isStarted n (.cancel n (BitVec.ofNat 8 m.val)) s = true →
    s.unit.slots[m].state = .started → slotKind m s = some k → k.cancellable = true → n ≠ m →
    ∃ t result, exec (.cancel n (BitVec.ofNat 8 m.val)) s = .next t ∧ result.length ≤ 240
      ∧ t.unit = (answered n .ok [3] (answered m .cancelled result s)).unit
      ∧ t = { s with unit := t.unit, freeCount := t.freeCount })
  ∧ ∀ (n : Fin 32) (target : Byte) (s : State), isStarted n (.cancel n target) s = true → 31 < target.toNat →
    ∃ t result, exec (.cancel n target) s = .next t ∧ result.length ≤ 240
      ∧ t = { answered n .badValue result s with freeCount := s.freeCount + 1 }

/-! ### Requests of the SYSTEM and DISPLAY lanes -/

/-- SET_SCAN: the code clamped to 3 to 7 becomes the divider code requested, with the effective code as result,
and nothing else changes; it is in force from the next scan frame start, and the scan frame start that ends a
frame in which a channel was granted clears the channel's starvation flag (R30, R26, R29): a granted channel counts as
converted in its frame (the model's reading, log 14). -/
def Obligations.SetScanClampsTheCode : Prop :=
  (∀ (n : Fin 32) (code : Byte) (s : State), isStarted n (.setScan n code) s = true →
    let k := if code.toNat < 3 then 3 else if code.toNat > 7 then 7 else code.toNat
    exec (.setScan n code) s = .next (answered n (if k = code.toNat then .ok else .okAdjusted)
      [BitVec.ofNat 8 k] { s with scan := { s.scan with requested := k } }))
  ∧ ∀ s : State, ∃ t, exec .scanFrameStart s = .next t ∧ t.scan.code = s.scan.requested
      ∧ t.scan.requested = s.scan.requested
      ∧ ∀ i : Fin 4, s.scan.grants.contains (classCChannel (classCAt i.val)) = true →
          t.scan.starved[i] = false

/-- SET_EVENT_LEVELS: every class takes its level, one above 15 as 15; the latches stay as they are, ALERT is evaluated
again, and the results are the 25 levels in force; OK_ADJUSTED when a level was clamped (R174). SET_LINES: with
every enable 0 or 1, each line takes its debounce time, one above 255 as 255, and its two enables, and keeps its
levels, its running timer and its edge record; with an enable above 1 the request is refused BAD_VALUE and nothing
changes (R24). SET_POWER_LIMITS: thresholds in range, with LOW more than 300 above EMPTY, are taken, and where the
filter is present the battery state follows from it by the table of R33, with the power state DC or the battery
state; other thresholds are refused BAD_VALUE and change nothing (R35, R33). A refused SET_LINES reports the
debounce times in force, and a refused SET_POWER_LIMITS the power state (the model's reading, log 17). -/
def Obligations.LineEventAndPowerSettings : Prop :=
  (∀ (n : Fin 32) (levels : List Byte) (s : State), levels.length = 25 →
    isStarted n (.setEventLevels n levels) s = true →
    ∃ t, exec (.setEventLevels n levels) s = .next t
      ∧ (∀ i : Fin 25, t.events.levels[i] = min (byteAt levels i.val).toNat 15)
      ∧ t.events.latches = s.events.latches ∧ t.events.alert = alertCondition t.events s.unit
      ∧ t = { s with
          events := t.events
          unit := (answered n (if levels.any (fun b => decide (b.toNat > 15)) then .okAdjusted else .ok)
            (levels.map fun b => BitVec.ofNat 8 (min b.toNat 15)) s).unit }) ∧
  (∀ (n : Fin 32) (g : List LineParam) (s : State), g.length = 7 → isStarted n (.setLines n g) s = true →
    ((∀ x ∈ g, x.rise.toNat ≤ 1 ∧ x.fall.toNat ≤ 1) → ∃ t, exec (.setLines n g) s = .next t
      ∧ (∀ (i : Fin 7) (x : LineParam), g[i.val]? = some x → t.lines[i] = { s.lines[i] with
          debounce := min x.debounce.toNat 255, riseEnable := x.rise == 1, fallEnable := x.fall == 1 })
      ∧ t = { s with
          lines := t.lines
          unit := (answered n (if g.any (fun x => decide (x.debounce.toNat > 255)) then .okAdjusted else .ok)
            (g.map fun x => BitVec.ofNat 8 (min x.debounce.toNat 255)) s).unit })
    ∧ ((∃ x ∈ g, x.rise.toNat > 1 ∨ x.fall.toNat > 1) →
      exec (.setLines n g) s = .next (answered n .badValue
        (s.lines.toList.map fun l => byteOf l.debounce) s))) ∧
  (∀ (n : Fin 32) (low empty : BitVec 16) (s : State), isStarted n (.setPowerLimits n low empty) s = true →
    ((6300 ≤ low.toNat ∧ low.toNat ≤ 16500 ∧ 6000 ≤ empty.toNat ∧ empty.toNat ≤ 16200
        ∧ low.toNat > empty.toNat + 300) →
      (s.power.filter = none → exec (.setPowerLimits n low empty) s = .next (answered n .ok
        [byteOf s.power.state.code]
        { s with power := { s.power with low := low.toNat, empty := empty.toNat } }))
      ∧ (∀ f, s.power.filter = some f → ∃ t, exec (.setPowerLimits n low empty) s = .next t
          ∧ t.power.low = low.toNat ∧ t.power.empty = empty.toNat
          ∧ (s.power.battery = .normal → t.power.battery
              = (if f < empty.toNat then .empty else if f < low.toNat then .low else .normal))
          ∧ (s.power.battery = .low → t.power.battery
              = (if f < empty.toNat then .empty else if f < low.toNat + 300 then .low else .normal))
          ∧ (s.power.battery = .empty → t.power.battery
              = (if f < empty.toNat + 300 then .empty else if f < low.toNat + 300 then .low else .normal))
          ∧ t.power.state = (if s.power.dc then .dc else batteryPower t.power.battery)
          ∧ t.power.samples = s.power.samples ∧ t.power.filter = some f ∧ t.power.dc = s.power.dc
          ∧ t.unit.slots[n].state = .completing
          ∧ t.clock = s.clock ∧ t.lines = s.lines ∧ t.scan = s.scan ∧ t.vf = s.vf ∧ t.mem = s.mem))
    ∧ (¬(6300 ≤ low.toNat ∧ low.toNat ≤ 16500 ∧ 6000 ≤ empty.toNat ∧ empty.toNat ≤ 16200
        ∧ low.toNat > empty.toNat + 300) →
      exec (.setPowerLimits n low empty) s = .next (answered n .badValue [byteOf s.power.state.code] s)))

/-- SET_CUE with every parameter in its range, a time code value in the fields that the mask does not leave out,
replaces the whole record of the channel: enable, source with its value, mask, condition, action and mode are the
ones given, the last-fired label and the previous sample become absent and the flags clear, and the request
completes OK; with any other parameters it is refused BAD_VALUE and no channel changes (R170). A firing latches
CUE_FIRED unless its level is 0, sets the last-fired label to the label last delivered, turns a ONCE channel OFF and
has the action carried out (R169): a TC channel fires at the frame starts whose label matches its value in the
fields not masked (R166); a ZOOM or a FOCUS channel at a sample that crosses its value in the sense of its
condition, and every sample becomes the previous one (R167); a CLIP_FRAMES channel, once a clip, at a report of
frames at or above its value (R168). EVENT_ONLY sets the action-taken flag; REC_START begins a start, and leaves
the flag clear in HALTED; REC_STOP makes a stop pending with reason CUE; MARK_CUE adds a CUE mark with the channel
number; SHOT_PUSH adds a bank; SHOT_RECALL of an empty stack leaves the flag clear. The firings are stated with the
other channels disabled and no operation of the shot stack in flight. The order of the receivers of a frame start
is an operand (the model's choice, log 5). -/
def Obligations.SetCueReplacesTheChannel : Prop :=
  (∀ (n : Fin 32) (p : CueParam) (s : State), isStarted n (.setCue n p) s = true →
    let v := p.value.toNat
    let tc : Label := ⟨v % 256, v / 256 % 256, v / 65536 % 256, v / 16777216⟩
    let mask : CueMask := ⟨p.mask.getLsbD 0, p.mask.getLsbD 1, p.mask.getLsbD 2, p.mask.getLsbD 3⟩
    let valid : Prop := p.channel.toNat ≤ 3 ∧ p.enable.toNat ≤ 1 ∧ p.source.toNat ≤ 3 ∧ p.mask.toNat ≤ 15
      ∧ p.condition.toNat ≤ 2 ∧ p.action.toNat ≤ 5 ∧ p.mode.toNat ≤ 1
      ∧ (p.source = 0 → (mask.hours = false → tc.hours ≤ 23) ∧ (mask.minutes = false → tc.minutes ≤ 59)
          ∧ (mask.seconds = false → tc.seconds ≤ 59)
          ∧ (mask.frames = false → tc.frames < s.clock.rate.labelRate))
      ∧ (p.source = 1 → v ≤ 4095) ∧ (p.source = 2 → v ≤ 8191) ∧ (p.source = 3 → 1 ≤ v ∧ v ≤ 2147483647)
    (valid → ∀ k : Fin 4, k.val = p.channel.toNat → exec (.setCue n p) s = .next (answered n .ok []
      { s with cues := put s.cues k {
          enable := p.enable == 1
          source := if p.source = 0 then .tc tc else if p.source = 1 then .zoom v
            else if p.source = 2 then .focus v else .clipFrames v
          mask := mask
          condition := if p.condition = 0 then .crossUp else if p.condition = 1 then .crossDown else .crossAny
          action := if p.action = 0 then .eventOnly else if p.action = 1 then .recStart
            else if p.action = 2 then .recStop else if p.action = 3 then .markCue
            else if p.action = 4 then .shotPush else .shotRecall
          once := p.mode == 0, lastFired := none, taken := false, previous := none, firedClip := false } }))
    ∧ (¬valid → exec (.setCue n p) s = .next (answered n .badValue [] s)))
  ∧ (∀ (code : BitVec 12) (k : Fin 4) (v p : Nat) (s : State), s.scan.grants.contains .zoomPos = true →
    s.cues[k].source = .zoom v → s.cues[k].enable = true → s.cues[k].previous = some p →
    (∀ i : Fin 4, i ≠ k → s.cues[i].enable = false) → s.shots.op = none →
    let q := min 4095 ((((code.toNat : Int) - s.zoom.wide) * 4095).tdiv
      ((s.zoom.tele : Int) - s.zoom.wide)).toNat
    let crosses : Prop := (s.cues[k].condition ≠ .crossDown ∧ p < v ∧ v ≤ q)
      ∨ (s.cues[k].condition ≠ .crossUp ∧ v < p ∧ q ≤ v)
    ∃ t, exec (.conversionComplete .zoomPos code) s = .next t ∧ t.cues[k].previous = some q
      ∧ (¬crosses → t.cues[k] = { s.cues[k] with previous := some q } ∧ t.recorder = s.recorder)
      ∧ (crosses → t.cues[k].lastFired = some (stampNow s) ∧ t.cues[k].enable = !s.cues[k].once
        ∧ (isMuted .cueFired s = false → isLatched .cueFired t = true)
        ∧ (s.cues[k].action = .eventOnly → t.cues[k].taken = true ∧ t.recorder = s.recorder)
        ∧ (s.cues[k].action = .recStart → s.recorder.state = .standby → s.recorder.powerEmpty = false →
            s.cardA.state = .ready → t.cues[k].taken = true ∧ t.recorder.state = .arming
              ∧ t.recorder.pendingStart = some .cue)
        ∧ (s.cues[k].action = .recStart → s.recorder.state = .halted →
            t.cues[k].taken = false ∧ t.recorder = s.recorder)
        ∧ (s.cues[k].action = .recStop → s.recorder.state = .recording → s.recorder.pendingStop = none →
            t.cues[k].taken = true ∧ t.recorder = { s.recorder with pendingStop := some .cue })
        ∧ (∀ clip, openClip s = some clip → s.cues[k].action = .markCue → clip.state = .opened →
            clip.marks.length < 16 → t.cues[k].taken = true ∧ openClip t = some { clip with
              marks := clip.marks ++ [⟨.cue, clip.frames - 1, some k.val⟩] })
        ∧ (∀ f, s.focus.pos = some f → ∀ i, s.iris.pos = some i → s.cues[k].action = .shotPush →
            s.track.on = false → s.focus.state = .idle → s.shots.depth < 32 → s.shots.banks.length < 8 →
            t.cues[k].taken = true
              ∧ t.shots.banks = s.shots.banks ++ [⟨q, f, s.track.d, i, false⟩])
        ∧ (s.cues[k].action = .shotRecall → s.shots.spill = 0 → s.shots.banks = [] →
            t.cues[k].taken = false ∧ t.shots = s.shots
              ∧ (isMuted .shotStack s = false → isLatched .shotStack t = true)))
      ∧ t.clock = s.clock ∧ t.lines = s.lines ∧ t.vf = s.vf ∧ t.mem = s.mem)
  ∧ (∀ (k : Fin 4) (v x p : Nat) (s : State), s.focus.state = .moving → s.focus.pos = some p →
    s.cues[k].source = .focus v → s.cues[k].enable = true → s.cues[k].previous = some x →
    s.cues[k].action = .eventOnly → (∀ i : Fin 4, i ≠ k → s.cues[i].enable = false) → s.shots.op = none →
    let q := if p < s.focus.target then p + 1 else if s.focus.target < p then p - 1 else p
    let crosses : Prop := (s.cues[k].condition ≠ .crossDown ∧ x < v ∧ v ≤ q)
      ∨ (s.cues[k].condition ≠ .crossUp ∧ v < x ∧ q ≤ v)
    ∃ t, exec .focusStep s = .next t
      ∧ (¬crosses → t.cues[k] = { s.cues[k] with previous := some q })
      ∧ (crosses → t.cues[k] = { s.cues[k] with
            previous := some q, lastFired := some (stampNow s), taken := true, enable := !s.cues[k].once }
          ∧ (isMuted .cueFired s = false → isLatched .cueFired t = true))
      ∧ t.clock = s.clock ∧ t.recorder = s.recorder ∧ t.lines = s.lines ∧ t.vf = s.vf ∧ t.mem = s.mem)
  ∧ (∀ (order : List Receiver) (k : Fin 4) (v : Label) (s : State), s.cues[k].source = .tc v →
    s.cues[k].enable = true → s.cues[k].action = .eventOnly →
    (∀ i : Fin 4, i ≠ k → s.cues[i].enable = false) → s.shots.op = none →
    ∃ t, exec (.frameStart order) s = .next t
      ∧ (let l := t.clock.label
        let m := s.cues[k].mask
        let agrees : Prop := (m.hours = true ∨ v.hours = l.hours) ∧ (m.minutes = true ∨ v.minutes = l.minutes)
          ∧ (m.seconds = true ∨ v.seconds = l.seconds) ∧ (m.frames = true ∨ v.frames = l.frames)
        (agrees → t.cues[k].lastFired = some ⟨l, frameNumber s.clock.rate s.clock.drop l⟩
            ∧ t.cues[k].taken = true ∧ t.cues[k].enable = !s.cues[k].once
            ∧ (isMuted .cueFired s = false → isLatched .cueFired t = true))
        ∧ (¬agrees → t.cues[k].lastFired = s.cues[k].lastFired ∧ t.cues[k].taken = s.cues[k].taken
            ∧ t.cues[k].enable = true))
      ∧ t.lines = s.lines ∧ t.scan = s.scan ∧ t.power = s.power ∧ t.stab = s.stab ∧ t.mem = s.mem)
  ∧ ∀ (order : List Receiver) (k : Fin 4) (v : Nat) (clip : Clip) (s : State),
    s.cues[k].source = .clipFrames v → s.cues[k].enable = true → s.cues[k].firedClip = false →
    (s.cues[k].action = .eventOnly ∨ s.cues[k].action = .recStop) →
    (∀ i : Fin 4, i ≠ k → s.cues[i].enable = false) → s.shots.op = none → s.recorder.state = .recording →
    s.recorder.pendingStop = none → openClip s = some clip →
    clip.frames + 1 ≠ framesPerDay s.clock.rate s.clock.drop →
    ∃ t clip', exec (.frameStart order) s = .next t ∧ openClip t = some clip' ∧ clip'.frames = clip.frames + 1
      ∧ (v ≤ clip.frames + 1 → t.cues[k].firedClip = true ∧ t.cues[k].taken = true
          ∧ t.cues[k].lastFired = some ⟨t.clock.label, frameNumber s.clock.rate s.clock.drop t.clock.label⟩
          ∧ t.cues[k].enable = !s.cues[k].once
          ∧ (isMuted .cueFired s = false → isLatched .cueFired t = true)
          ∧ t.recorder.pendingStop = (if s.cues[k].action = .recStop then some .cue else none))
      ∧ (clip.frames + 1 < v → t.cues[k].firedClip = false ∧ t.cues[k].enable = true
          ∧ t.cues[k].lastFired = s.cues[k].lastFired ∧ t.recorder.pendingStop = none)
      ∧ t.lines = s.lines ∧ t.scan = s.scan ∧ t.power = s.power ∧ t.stab = s.stab ∧ t.mem = s.mem

/-- GET_STATUS: the 236-byte snapshot of the state at that moment is the result; the panel keys and their drop count
are drained, and nothing else changes (R175, R157). The bytes stand where section 11.6 puts them, little-endian, a
value in the low bits of its field: recording, the two cards, time, lens, stabiliser, audio, power and scan, lines,
cues, conflict, panel keys and counters. An absent or undefined value is 0, and an absent record has its label
0xFFFFFF; the other bytes of an absent conflict record and of a panel key entry without a record are 0 (the model's
choice, log 36). -/
def Obligations.GetStatusReportsAndDrains : Prop :=
  ∀ (n : Fin 32) (s : State), isStarted n (.getStatus n) s = true →
    let r := snapshot s
    let b (i : Nat) : Nat := (byteAt r i).toNat
    let flag (x : Bool) (k : Nat) : Nat := if x then k else 0
    let stamp (x : Option (Stamp × Bool)) : Nat := match x with
      | some (m, f) => m.number % 8388608 + flag f 8388608
      | none => 16777215
    let signed (k : Nat) (x : Int) : Nat := (BitVec.ofInt k x).toNat
    exec (.getStatus n) s = .next (answered n .ok r { s with vf := { s.vf with keys := [], drops := 0 } })
    ∧ r.length = 236
    ∧ (b 0 = s.recorder.state.code ∧ b 1 = flag s.recorder.mirror 1 + flag (s.recorder.preferred == .b) 2
      ∧ fieldAt r 2 2 = (match openClip s with | some k => k.number | none => 0) % 65536
      ∧ fieldAt r 4 3 = (match openClip s with | some k => k.frames | none => 0) % 16777216
      ∧ fieldAt r 7 2 = s.recorder.limit % 65536 ∧ fieldAt r 9 2 = s.recorder.bitrate % 65536
      ∧ fieldAt r 11 2 = min ((s.recorder.held.map Extent.frames).sum) 65535)
    ∧ (∀ c : CardSlot, let o := if c = .a then 13 else 32
      let k := card c s
      b o = k.state.code ∧ fieldAt r (o + 1) 3 = k.capacity % 16777216
      ∧ fieldAt r (o + 4) 3 = k.committed % 16777216 ∧ fieldAt r (o + 7) 3 = k.reserved % 16777216
      ∧ fieldAt r (o + 10) 3 = (k.capacity - k.committed - k.reserved) % 16777216
      ∧ fieldAt r (o + 13) 2 = k.indexCount % 65536 ∧ fieldAt r (o + 15) 2 = k.lastClip % 65536
      ∧ fieldAt r (o + 17) 2 = k.queue.length % 65536)
    ∧ (b 51 = s.clock.label.hours % 256 ∧ b 52 = s.clock.label.minutes % 256
      ∧ b 53 = s.clock.label.seconds % 256 ∧ b 54 = s.clock.label.frames % 256
      ∧ b 55 = s.clock.rate.code + flag s.clock.drop 8 + flag (s.clock.mode == .recRun) 16
        + flag s.clock.genlock 32 + 64 * (match s.clock.lock with
          | .free => 0 | .acquire => 1 | .locked => 2 | .holdover => 3))
    ∧ (fieldAt r 56 2 = s.zoom.z.getD 0 % 65536 ∧ b 58 = signed 8 s.zoom.applied
      ∧ b 59 = (match s.focus.state with
          | .unreferenced => 0 | .referencing => 1 | .idle => 2 | .moving => 3 | .fault => 4)
        + flag s.track.on 8 + flag s.track.table.isSome 16 + flag s.shots.refuse 32
      ∧ fieldAt r 60 2 = s.focus.pos.getD 0 % 65536 ∧ b 62 = s.iris.pos.getD 0 % 256
      ∧ b 63 = s.iris.target.getD 0 % 256 ∧ fieldAt r 64 3 = s.track.focalLength % 16777216
      ∧ fieldAt r 67 2 = s.track.d % 65536 ∧ b 69 = s.shots.depth % 256 ∧ b 70 = s.shots.spill % 256)
    ∧ (b 71 = s.stab.state.code + 8 * s.stab.mode.code
      ∧ b 72 = (s.stab.deadBand + flag s.stab.yaw.inPan 16 + flag s.stab.yaw.saturated 32
        + flag s.stab.pitch.inPan 64 + flag s.stab.pitch.saturated 128) % 256
      ∧ fieldAt r 73 2 = signed 16 s.stab.yaw.drive ∧ fieldAt r 75 3 = signed 24 s.stab.yaw.bias
      ∧ fieldAt r 78 2 = signed 16 s.stab.pitch.drive ∧ fieldAt r 80 3 = signed 24 s.stab.pitch.bias
      ∧ fieldAt r 83 2 = s.stab.leak % 65536 ∧ fieldAt r 85 2 = s.stab.panLeak % 65536
      ∧ fieldAt r 87 2 = s.stab.panThreshold % 65536 ∧ fieldAt r 89 2 = s.stab.stroke % 65536)
    ∧ (∀ i : Fin 4, let o := 91 + 6 * i.val
      let c := s.audio.channels[i]
      b o = c.source.code + flag c.phantom 4 + 8 * c.mode.code + flag c.overFlag 32
      ∧ b (o + 1) = signed 8 c.hostGain ∧ b (o + 2) = signed 8 c.applied ∧ b (o + 3) = signed 8 c.reduction
      ∧ b (o + 4) = signed 8 (min (-c.level) 255) ∧ b (o + 5) = signed 8 (min (-c.held) 255))
    ∧ (b 115 = flag s.audio.lost 1 ∧ b 116 = signed 8 s.audio.holdTime
      ∧ fieldAt r 117 2 = signed 16 s.audio.overThreshold ∧ fieldAt r 119 2 = signed 16 s.audio.limitThreshold
      ∧ b 121 = signed 8 (-s.audio.target) ∧ b 122 = signed 8 s.audio.ceiling)
    ∧ (b 123 = (s.power.state.code + 16 * s.scan.code) % 256 ∧ fieldAt r 124 2 = s.power.filter.getD 0 % 65536)
    ∧ (∀ i : Fin 7, (byteAt r 126).getLsbD i.val = s.lines[i].raw
      ∧ (byteAt r 127).getLsbD i.val = s.lines[i].debounced
      ∧ fieldAt r (128 + 3 * i.val) 3 = stamp (s.lines[i].edge.map fun e => (e.stamp, !e.rising)))
    ∧ b 126 < 128 ∧ b 127 < 128
    ∧ (∀ i : Fin 4, let o := 149 + 9 * i.val
      let c := s.cues[i]
      b o = flag c.enable 1 + 2 * c.source.code + 8 * c.condition.code + flag (!c.once) 32 + flag c.taken 64
      ∧ b (o + 1) = c.action.code + flag c.mask.hours 16 + flag c.mask.minutes 32 + flag c.mask.seconds 64
        + flag c.mask.frames 128
      ∧ (match c.source with
        | .tc l => b (o + 2) = l.hours % 256 ∧ b (o + 3) = l.minutes % 256 ∧ b (o + 4) = l.seconds % 256
            ∧ b (o + 5) = l.frames % 256
        | .zoom v => fieldAt r (o + 2) 4 = v % 4294967296
        | .focus v => fieldAt r (o + 2) 4 = v % 4294967296
        | .clipFrames v => fieldAt r (o + 2) 4 = v % 4294967296)
      ∧ fieldAt r (o + 6) 3 = stamp (c.lastFired.map fun m => (m, false)))
    ∧ (b 185 = (match s.conflict with
        | some c => 128 + (match c.axis with | .zoom => 0 | .focus => 1 | .iris => 2)
        | none => 0)
      ∧ b 186 = (match s.conflict with | some c => c.source % 256 | none => 0)
      ∧ fieldAt r 187 3 = stamp (s.conflict.map fun c => (c.stamp, false)))
    ∧ (b 190 = (s.vf.keys.length + flag s.vf.present 128) % 256 ∧ b 191 = s.vf.drops % 256
      ∧ ∀ i : Fin 8, let o := 192 + 4 * i.val
        byteAt r o = (match s.vf.keys[i.val]? with | some k => k.key | none => 0)
        ∧ fieldAt r (o + 1) 3 = stamp (s.vf.keys[i.val]?.map fun k => (k.stamp, k.pressed)))
    ∧ (fieldAt r 224 2 = s.vf.overruns % 65536 ∧ fieldAt r 226 2 = s.vf.errors % 65536
      ∧ fieldAt r 228 2 = s.clock.glitches % 65536 ∧ fieldAt r 230 2 = s.clock.mismatches % 65536
      ∧ fieldAt r 232 2 = s.scan.starvations % 65536 ∧ fieldAt r 234 2 = s.unit.misuse % 65536)

/-- SET_VF_TEXT: with a length of 24 or less, the first characters are taken, each outside 0x20 to 0x7E as a
space, and the rest are spaces, OK_ADJUSTED when one was replaced; a length above 24 is refused BAD_VALUE with
the text kept. SET_VF_CONFIG: an address of 0x08 to 0x77 is taken, another refused BAD_VALUE (R162, R163). A refusal
reports the page version and the address in force (the model's reading, log 17). -/
def Obligations.DisplayRequestsTakeEffect : Prop :=
  (∀ (n : Fin 32) (length : Byte) (chars : List Byte) (s : State), chars.length = 24 →
    isStarted n (.setVfText n length chars) s = true →
    (length.toNat ≤ 24 → ∃ t, exec (.setVfText n length chars) s = .next t
      ∧ t.vf.text.length = 24
      ∧ (∀ i < 24, byteAt t.vf.text i = if i < length.toNat ∧ 0x20 ≤ (byteAt chars i).toNat
          ∧ (byteAt chars i).toNat ≤ 0x7E then byteAt chars i else 0x20)
      ∧ t = answered n (if (chars.take length.toNat).any
            (fun b => decide (b.toNat < 0x20) || decide (b.toNat > 0x7E)) then .okAdjusted else .ok)
          [byteOf s.vf.version] { s with vf := { s.vf with text := t.vf.text } })
    ∧ (24 < length.toNat → exec (.setVfText n length chars) s
        = .next (answered n .badValue [byteOf s.vf.version] s)))
  ∧ ∀ (n : Fin 32) (a : Byte) (s : State), isStarted n (.setVfConfig n a) s = true →
    ((0x08 ≤ a.toNat ∧ a.toNat ≤ 0x77) → exec (.setVfConfig n a) s
      = .next (answered n .ok [a] { s with vf := { s.vf with address := a.toNat } }))
    ∧ ((a.toNat < 0x08 ∨ 0x77 < a.toNat) → exec (.setVfConfig n a) s
      = .next (answered n .badValue [byteOf s.vf.address] s))

/-! ### Frame clock and time code (Chapter 1) -/

/-- SET_GENLOCK: ON sets the setting and nothing else; OFF while ON clears the setting and the previous edge and goes
to FREE, with REF_STATE latched on a change of state; a value above 1 is refused (R18, R7). The missed-edge count of
FREE, where the watchdog is stopped, is 0 (the model's choice, log 56). SET_TC in STANDBY, PREREC or HALTED with its
fields in range: the label, moved to the next valid one where it does not exist, is the pending preset, and the
request stays in progress; a field out of range is BAD_VALUE, and in ARMING, REC and STOPPING it is BUSY (R16; the
results of these two are free, log 16). SET_TC_MODE that names the mode in force there clears the recorded-frame flag
and completes OK; one that changes it takes the new mode and tells the record engine: in STANDBY and PREREC it goes to
the idle state, PREREC in FREE_RUN with a pre-record limit above 0 and STANDBY otherwise, the extents held in PREREC
settled DISCARDED, and in HALTED nothing changes (R132); in ARMING, REC and STOPPING it is BUSY and a mode above 1 is
BAD_VALUE (R17). Where both refusals apply, to either request, BAD_VALUE answers (the model's choice, log 45). An
extent that SET_TC_MODE discards ends its request before the SET_TC_MODE completes (the model's reading, log 62).
-/
def Obligations.ClockRequests : Prop :=
  (∀ (n : Fin 32) (enable : Byte) (s : State), isStarted n (.setGenlock n enable) s = true →
    let off : State := { s with clock := { s.clock with
      genlock := false, prevEdge := none, lock := .free, slew := 0, lockCount := 0, unlockCount := 0
      holdover := 0, watchdog := none, missed := 0 } }
    (enable = 1 → exec (.setGenlock n enable) s
      = .next (answered n .ok [] { s with clock := { s.clock with genlock := true } }))
    ∧ (enable = 0 → s.clock.genlock = true → exec (.setGenlock n enable) s
      = .next (answered n .ok [] (if s.clock.lock = .free then off else latch .refState off)))
    ∧ (enable = 0 → s.clock.genlock = false → exec (.setGenlock n enable) s = .next (answered n .ok [] s))
    ∧ (1 < enable.toNat → exec (.setGenlock n enable) s = .next (answered n .badValue [] s))) ∧
  (∀ (n : Fin 32) (h m sec f : Byte) (s : State), isStarted n (.setTc n h m sec f) s = true →
    let inRange : Prop := h.toNat ≤ 23 ∧ m.toNat ≤ 59 ∧ sec.toNat ≤ 59 ∧ f.toNat < s.clock.rate.labelRate
    (¬inRange ∨ s.recorder.state.isBusy = true) → ∃ t r, exec (.setTc n h m sec f) s = .next t ∧ r.length ≤ 240
      ∧ (¬inRange → t = { answered n .badValue r s with freeCount := s.freeCount + 1 })
      ∧ (inRange → t = { answered n .busy r s with freeCount := s.freeCount + 1 })) ∧
  ((∀ (n : Fin 32) (h m sec f : Byte) (s : State), isStarted n (.setTc n h m sec f) s = true →
    h.toNat ≤ 23 → m.toNat ≤ 59 → sec.toNat ≤ 59 → f.toNat < s.clock.rate.labelRate →
    s.recorder.state.isBusy = false →
    let given : Label := ⟨h.toNat, m.toNat, sec.toNat, f.toNat⟩
    let taken := given.nextValid s.clock.rate s.clock.drop
    exec (.setTc n h m sec f) s = .next (running n
      { s with clock := { s.clock with preset := some ⟨taken, n, decide (taken ≠ given)⟩ } }))
  ∧ ∀ (n : Fin 32) (mode : Byte) (s : State), isStarted n (.setTcMode n mode) s = true →
    (mode.toNat > 1 → exec (.setTcMode n mode) s = .next (answered n .badValue [] s))
    ∧ (mode.toNat ≤ 1 → s.recorder.state.isBusy = true →
        exec (.setTcMode n mode) s = .next (answered n .busy [] s))
    ∧ (mode.toNat ≤ 1 → s.recorder.state.isBusy = false →
        (s.clock.mode = (if mode = 1 then .recRun else .freeRun) → exec (.setTcMode n mode) s
          = .next (answered n .ok [] { s with clock := { s.clock with recorded := false } }))
        ∧ ∃ t, exec (.setTcMode n mode) s = .next t
          ∧ t.clock = { s.clock with mode := if mode = 1 then .recRun else .freeRun, recorded := false }
          ∧ t.unit.slots[n].state = .completing ∧ t.lines = s.lines ∧ t.vf = s.vf ∧ t.mem = s.mem
          ∧ (s.clock.mode ≠ (if mode = 1 then .recRun else .freeRun) →
            (s.recorder.state = .halted → t.recorder = s.recorder ∧ t.unit = (answered n .ok [] s).unit)
            ∧ ((s.recorder.state = .prerec ∨ s.recorder.state = .standby ∧ s.recorder.held = []) →
              let idle : RecState := if 0 < s.recorder.limit ∧ mode = 0 then .prerec else .standby
              t.recorder.state = idle ∧ t.recorder.held = []
              ∧ (s.recorder.state ≠ idle → isMuted .recState s = false → isLatched .recState t = true)
              ∧ (s.recorder.held = [] →
                t.recorder.essences = s.recorder.essences ∧ t.unit = (answered n .ok [] s).unit)
              ∧ ∀ (m : Fin 32) (e : Extent), s.recorder.held = [e] → e.slot = m → e.place = 0 →
                s.recorder.essences = [⟨m, 1, [⟨none, 0, none, .none, .none⟩]⟩] →
                s.unit.slots[m].state = .running →
                t.recorder.essences = []
                ∧ t.unit = (answered n .ok [] (answered m .discarded [3, 0, 0] s)).unit))))

/-- SET_VIDEO_FORMAT: a format exists for the rate codes 0 to 7 with drop OFF, and for the rate codes 3 and 6 with drop
ON. In STANDBY or PREREC it completes with the new format: the period is the nominal one of the rate, the slew is 0,
the label's frames are clamped to the format and moved past a dropped label (OK_ADJUSTED when that changed the
label), the label is the result, the previous edge is absent, the lock state is ACQUIRE with genlock ON and FREE
otherwise, the held extents are discarded, and the frame in progress goes on to the new period: a frame start whose
tick has come stands only where the counter is at or past the new end (R15). In another record state the request is
BUSY, and of a format that does not exist it is BAD_VALUE before BUSY (the model's choice, log 45); a refusal
changes nothing, and reports the label (the model's reading, log 17). -/
def Obligations.SetVideoFormatReplacesTheFormat : Prop :=
  ∀ (n : Fin 32) (rate drop : Byte) (s : State), isStarted n (.setVideoFormat n rate drop) s = true →
    (∀ (r : FrameRate) (d : Bool), r.code = rate.toNat → drop.toNat = (if d then 1 else 0) →
      (d = true → rate = 3 ∨ rate = 6) →
      (s.recorder.state = .standby ∨ s.recorder.state = .prerec →
        let f := min s.clock.label.frames (r.labelRate - 1)
        let dropped : Nat := if rate = 3 then 2 else 4
        ∃ t, exec (.setVideoFormat n rate drop) s = .next t
          ∧ t.clock.rate = r ∧ t.clock.drop = d ∧ t.clock.period = r.period ∧ t.clock.slew = 0
          ∧ t.clock.label = { s.clock.label with frames :=
              if d = true ∧ s.clock.label.seconds = 0 ∧ s.clock.label.minutes % 10 ≠ 0 ∧ f < dropped then dropped
              else f }
          ∧ t.clock.prevEdge = none
          ∧ t.clock.lock = (if s.clock.genlock then .acquire else .free)
          ∧ (s.clock.frameDue = false → t.clock.counter = s.clock.counter ∧ t.clock.frameDue = false)
          ∧ (s.clock.frameDue = true → t.clock.frameDue = decide (r.period ≤ s.clock.counter + 1)
              ∧ t.clock.counter = (if r.period ≤ s.clock.counter + 1 then s.clock.counter
                  else s.clock.counter + 1))
          ∧ t.clock.preset = s.clock.preset ∧ t.clock.mode = s.clock.mode ∧ t.recorder.held = []
          ∧ t.recorder.state = s.recorder.state
          ∧ t.unit.slots[n].state = .completing
          ∧ ((∀ e ∈ s.recorder.essences, e.slot ≠ n) →
              ⟨n, s.unit.workBase, if t.clock.label = s.clock.label then .ok else .okAdjusted,
                [byteOf t.clock.label.hours, byteOf t.clock.label.minutes, byteOf t.clock.label.seconds,
                  byteOf t.clock.label.frames], none, true⟩ ∈ t.unit.completions)
          ∧ t.lines = s.lines ∧ t.scan = s.scan ∧ t.power = s.power ∧ t.zoom = s.zoom ∧ t.vf = s.vf
          ∧ t.mem = s.mem)
      ∧ (s.recorder.state ≠ .standby → s.recorder.state ≠ .prerec →
        exec (.setVideoFormat n rate drop) s
          = .next (answered n .busy (labelBytes s.clock.label) s)))
    ∧ ((7 < rate.toNat ∨ 1 < drop.toNat ∨ (drop = 1 ∧ rate ≠ 3 ∧ rate ≠ 6)) →
        exec (.setVideoFormat n rate drop) s = .next (answered n .badValue (labelBytes s.clock.label) s))

/-- A frame start: the counter restarts at 0, the period is P plus the slew correction, the label is the pending
preset's or else the next label of the mode, and it is the label delivered (R2, R3, R12); a SET_TC whose preset takes
effect completes with that label (R16). Lines, scan, power, stabiliser and main memory do not change. A frame start
while a page is built or not: the viewfinder link begins a rebuild of the buffer that is not shown, of 1.5 ms, with
the label of the notice in its time code bytes 2 to 5 (R159, R160). Where it takes the notice first, the 64 bytes are
the fields of R160 of the state before the frame start, with the remaining minutes and the alert list of R161, laid
out as in section 11.6, the version 0 until the swap and the last five bytes 0. The order of the receivers is an
operand (the model's choice, log 5). -/
def Obligations.FrameStartSettlesTheLabel : Prop :=
  (∀ (order : List Receiver) (s : State),
    let label := match s.clock.preset with
      | some p => p.label
      | none => if s.clock.mode = .freeRun ∨ s.clock.recorded = true
          then addFrames s.clock.rate s.clock.drop s.clock.label 1 else s.clock.label
    ∃ t, exec (.frameStart order) s = .next t
      ∧ t.clock.counter = 0 ∧ t.clock.frameDue = false
      ∧ t.clock.period = ((s.clock.rate.period : Int) + s.clock.slew).toNat
      ∧ t.clock.label = label ∧ t.clock.delivered = some label ∧ t.clock.preset = none
      ∧ t.clock.rate = s.clock.rate ∧ t.clock.drop = s.clock.drop ∧ t.clock.mode = s.clock.mode
      ∧ (∀ p, s.clock.preset = some p → s.unit.slots[p.slot].state.inService = true →
          ⟨p.slot, s.unit.workBase, if p.adjusted then .okAdjusted else .ok,
            [byteOf p.label.hours, byteOf p.label.minutes, byteOf p.label.seconds, byteOf p.label.frames],
            some p.label, true⟩ ∈ t.unit.completions)
      ∧ t.lines = s.lines ∧ t.scan = s.scan ∧ t.power = s.power ∧ t.stab = s.stab ∧ t.mem = s.mem) ∧
  (∀ (order : List Receiver) (s : State), ∃ t, exec (.frameStart order) s = .next t
    ∧ t.vf.build = .building 40500 ∧ t.vf.shown = s.vf.shown ∧ t.vf.version = s.vf.version
    ∧ (t.vf.page t.vf.building).length = (if s.vf.text.length ≥ 24 then 64 else 40 + s.vf.text.length)
    ∧ ((t.vf.page t.vf.building).drop 2).take 4 = labelBytes t.clock.label
    ∧ (∀ b, s.vf.shown = some b → t.vf.page b = s.vf.page b)) ∧
  (∀ (rest : List Receiver) (s : State), s.vf.text.length = 24 →
    ∃ t, exec (.frameStart (.page :: rest)) s = .next t ∧
      let r := s.recorder
      let bits (l : List Bool) : Byte := byteOf ((l.mapIdx fun i b => if b then 2 ^ i else 0).sum : Nat)
      let minutes (k : Card) : Nat :=
        if k.state = .ready ∨ k.state = .active ∨ k.state = .full then
          (k.capacity - k.committed - k.reserved) * 524288 / (r.bitrate * 60000000)
        else if k.state = .protect then 0 else 65535
      let short (k : Card) : Bool := k.state == .active && decide (minutes k < 2)
      let noneReady : Bool := s.cardA.state != .ready && s.cardB.state != .ready
      let ranks : List (Nat × Bool) := [(1, r.state == .halted), (2, s.power.state == .empty),
        (3, s.cardA.state == .fault || s.cardB.state == .fault),
        (4, (short s.cardA || short s.cardB) && (r.mirror || noneReady)), (5, s.power.state == .low),
        (6, s.clock.genlock && s.clock.lock != .locked), (7, s.audio.lost), (8, s.stab.state == .off)]
      let holding := (ranks.filter fun (c : Nat × Bool) => c.2).map fun (c : Nat × Bool) => byteOf c.1
      let alerts := (holding ++ List.replicate 4 0).take 4
      let meter (i : Fin 4) : Byte := byteOf (min s.audio.channels[i].held.natAbs 255 : Nat)
      t.vf.page t.vf.building =
        [0, bits [(r.state == .recording || r.state == .stopping) && r.pulse.isNone, s.clock.drop,
          s.clock.mode == .recRun, s.clock.genlock, s.clock.lock == .locked]]
        ++ labelBytes t.clock.label
        ++ field16 ((openClip s).map Clip.number |>.getD 0) ++ field24 ((openClip s).map Clip.frames |>.getD 0)
        ++ [byteOf (s.cardA.state.code + 16 * s.cardB.state.code : Nat)]
        ++ field16 (minutes s.cardA) ++ field16 (minutes s.cardB)
        ++ [byteOf (batteryPercent s.power.filter s.power.empty),
          byteOf (s.power.state.code + 4 * s.stab.state.code + (if s.stab.yaw.saturated then 32 else 0)
            + (if s.stab.pitch.saturated then 64 else 0) : Nat)]
        ++ [meter 0, meter 1, meter 2, meter 3, bits (s.audio.channels.toList.map AudioChannel.overFlag)]
        ++ field16 (s.zoom.z.getD 0) ++ field16 (s.focus.pos.getD 0) ++ [byteOf (s.iris.pos.getD 0)]
        ++ field16 s.track.d ++ [byteOf s.shots.depth] ++ alerts ++ s.vf.text ++ List.replicate 5 0)

/-- A reference edge: ignored with genlock OFF; a GLITCH below half a period counts only; a FIRST edge is kept
only; a MISMATCH of more than one part in 100 counts, records DIAG and is kept; a GOOD edge restarts the watchdog and
clears the missed edges (R4, R6). A GOOD edge in LOCKED sets the slew to the phase error over 8, within 54; an error
within 270 ticks clears the unlock count, a larger one counts, and the second in a row leads to ACQUIRE, where the
edge is taken again (R5, R9). A GOOD edge in ACQUIRE with an error within 2,700 ticks, or while a clip is OPEN or
CLOSING, sets the slew; with a larger one and no such clip it jumps: a frame start is taken at once, with the slew at
0 (R8, R2). An error within 27 ticks counts toward the lock, another starts the count again, and the eighth enters
LOCKED (R8). A GOOD edge in FREE or HOLDOVER enters ACQUIRE and is taken there (R7, R10, R8). REF_STATE latches on a
change of the lock state unless its level is 0. The order of the receivers of a frame start is an operand (the model's
choice, log 5). -/
def Obligations.ReferenceEdgeByItsClass : Prop :=
  ∀ (order : List Receiver) (s : State),
    let p := s.clock.rate.period
    (s.clock.genlock = false → exec (.referenceEdge order) s = .next s)
    ∧ (s.clock.genlock = true → s.clock.prevEdge = none → exec (.referenceEdge order) s
        = .next { s with clock := { s.clock with prevEdge := some 0 } })
    ∧ (s.clock.genlock = true → ∀ x, s.clock.prevEdge = some x →
      (x < p / 2 → exec (.referenceEdge order) s
        = .next { s with clock := { s.clock with glitches := min (s.clock.glitches + 1) 65535 } })
      ∧ (p / 2 ≤ x → 100 * ((x : Int) - p).natAbs > p → exec (.referenceEdge order) s
        = .next (latch .diag { s with clock := { s.clock with
            prevEdge := some 0, mismatches := min (s.clock.mismatches + 1) 65535 } }))
      ∧ (p / 2 ≤ x → 100 * ((x : Int) - p).natAbs ≤ p →
        let e : Int := if 2 * s.clock.counter < p then (s.clock.counter : Int) else s.clock.counter - p
        let slew : Int := if e.tdiv 8 > 54 then 54 else if e.tdiv 8 < -54 then -54 else e.tdiv 8
        let seen : Clock := { s.clock with prevEdge := some 0, watchdog := some 0, missed := 0 }
        let jumps : Prop := 2700 < e.natAbs ∧ openClip s = none
        (s.clock.lock = .locked → e.natAbs ≤ 270 → exec (.referenceEdge order) s
            = .next { s with clock := { seen with unlockCount := 0, slew := slew } })
        ∧ (s.clock.lock = .locked → 270 < e.natAbs → s.clock.unlockCount = 0 → exec (.referenceEdge order) s
            = .next { s with clock := { seen with unlockCount := 1, slew := slew } })
        ∧ (s.clock.lock = .locked → 270 < e.natAbs → 1 ≤ s.clock.unlockCount → ¬jumps →
          exec (.referenceEdge order) s = .next (latch .refState { s with clock := { seen with
            lock := .acquire, lockCount := 0, unlockCount := s.clock.unlockCount + 1, slew := slew } }))
        ∧ (s.clock.lock = .acquire → ¬jumps → 27 < e.natAbs → exec (.referenceEdge order) s
            = .next { s with clock := { seen with lockCount := 0, slew := slew } })
        ∧ (s.clock.lock = .acquire → e.natAbs ≤ 27 → s.clock.lockCount < 7 → exec (.referenceEdge order) s
            = .next { s with clock := { seen with lockCount := s.clock.lockCount + 1, slew := slew } })
        ∧ (s.clock.lock = .acquire → e.natAbs ≤ 27 → 7 ≤ s.clock.lockCount → exec (.referenceEdge order) s
            = .next (latch .refState { s with clock := { seen with
                lock := .locked, lockCount := s.clock.lockCount + 1, unlockCount := 0, slew := slew } }))
        ∧ ((s.clock.lock = .free ∨ s.clock.lock = .holdover) → ¬jumps → exec (.referenceEdge order) s
            = .next (latch .refState { s with clock := { seen with
                lock := .acquire, lockCount := if e.natAbs ≤ 27 then 1 else 0, slew := slew } }))
        ∧ ((s.clock.lock ≠ .locked ∨ 1 ≤ s.clock.unlockCount) → jumps →
          ∃ t, exec (.referenceEdge order) s = .next t ∧ t.clock.lock = .acquire ∧ t.clock.lockCount = 0
            ∧ t.clock.prevEdge = some 0 ∧ t.clock.watchdog = some 0 ∧ t.clock.missed = 0 ∧ t.clock.slew = 0
            ∧ t.clock.counter = 0 ∧ t.clock.period = p ∧ t.clock.frameDue = false
            ∧ t.clock.delivered = some t.clock.label
            ∧ (s.clock.lock ≠ .acquire → isMuted .refState s = false → isLatched .refState t = true)
            ∧ t.lines = s.lines ∧ t.scan = s.scan ∧ t.power = s.power ∧ t.stab = s.stab ∧ t.mem = s.mem)))

/-- A missed edge: the first and the second count; the third moves the lock state to HOLDOVER with the slew at
0, the watchdog stopped and the holdover frame count at 0 (R6, R10). That the missed-edge count stands at 3 in
HOLDOVER, where the watchdog is stopped, is the model's choice (log 56). The watchdog is taken to the threshold that
was passed (the model's choice, log 1). The 250th frame start in HOLDOVER moves the lock state to FREE, with
REF_STATE latched unless its level is 0 (R10, R7). HOLDOVER_EXPIRY as a frame start of its own is the model's
choice (log 4). -/
def Obligations.HoldoverBeginsAndEnds : Prop :=
  (∀ (w : Nat) (s : State), s.clock.watchdog = some w →
    (s.clock.missed < 2 → exec .missedEdge s = .next { s with clock := { s.clock with
      missed := s.clock.missed + 1
      watchdog := some (max w ((2 * s.clock.missed + 3) * s.clock.rate.period / 2)) } })
    ∧ (s.clock.missed = 2 → (s.clock.lock = .acquire ∨ s.clock.lock = .locked) →
      exec .missedEdge s = .next (latch .refState { s with clock := { s.clock with
        missed := 3, lock := .holdover, slew := 0, watchdog := none, holdover := 0 } }))) ∧
  (∀ (order : List Receiver) (s : State), s.clock.lock = .holdover → s.clock.holdover = 249 →
    ∃ t, exec (.holdoverExpiry order) s = .next t
      ∧ t.clock.lock = .free ∧ t.clock.holdover = 0 ∧ t.clock.slew = 0 ∧ t.clock.watchdog = none
      ∧ t.clock.lockCount = 0 ∧ t.clock.counter = 0
      ∧ (isMuted .refState s = false → isLatched .refState t = true)
      ∧ t.lines = s.lines ∧ t.scan = s.scan ∧ t.power = s.power ∧ t.stab = s.stab ∧ t.mem = s.mem)

/-! ### Lines and converter scan (Chapter 2) -/

/-- A raw change with the timer running stops it, since the line has two levels; with the timer stopped and a debounce
time above 0 it starts the timer of that many ms when the raw level now differs from the debounced one; a pin that
keeps its level changes nothing; no edge is delivered (R21). With a debounce time of 0 the raw change delivers the
edge at once, and the expiry of a line's timer delivers it with the raw level (R21). An edge delivered sets the
debounced level, writes the line-edge record with the label last delivered and latches LINE_EDGE in an enabled
direction, and reaches the line's owner: HANDLE_REC the record engine (R114), SHOT_BUTTON the press timing (R74) and
FOCUS_HOME the focus (R50) (R22, R23; the card lines are stated with the cards). A line whose timer does not run has
no expiry (the model's choice, log 3). A command is the occurrence it names, whatever time is left (the model's
choice, log 1). -/
def Obligations.LinesAreDebounced : Prop :=
  (∀ (i : Fin 7) (level : Bool) (s : State),
    (s.lines[i].raw = level → exec (.lineRawChange i level) s = .next s)
    ∧ (s.lines[i].raw ≠ level → s.lines[i].timer ≠ none → exec (.lineRawChange i level) s
        = .next { s with lines := put s.lines i { s.lines[i] with raw := level, timer := none } })
    ∧ (s.lines[i].raw ≠ level → s.lines[i].timer = none → s.lines[i].debounced ≠ level →
        0 < s.lines[i].debounce → exec (.lineRawChange i level) s
          = .next { s with lines := put s.lines i { s.lines[i] with
              raw := level, timer := some (s.lines[i].debounce * 27000) } })
    ∧ (s.lines[i].raw ≠ level → s.lines[i].timer = none → s.lines[i].debounced ≠ level → s.lines[i].debounce = 0 →
        ∃ t, exec (.lineRawChange i level) s = .next t ∧ edgeDelivered i level s t)) ∧
  (∀ (i : Fin 7) (s : State),
    (s.lines[i].timer = none → exec (.debounceExpiry i) s = .next s)
    ∧ (s.lines[i].timer ≠ none →
        ∃ t, exec (.debounceExpiry i) s = .next t ∧ edgeDelivered i s.lines[i].raw s t))

/-- A scan frame start: for each class C channel the starvation state of the frame just ended is updated by the table
of R29, the counter goes up by the number of channels that become starved, up to 65,535, and DIAG latches for them;
the new frame runs at the code requested. Its grants are both gyros first; at codes 3 to 6 then the zoom and the iris,
and at code 7 the one that the class B alternation names, which flips; and then class C channels from the pointer on,
four at codes 3 to 5, three at code 6 and none at code 7, after which the pointer names the channel that follows (R26,
R27, R29). CHANNEL_STARVED: where the channel goes without conversion for the 64th frame, the scan frame start flags
it as starved, counts it and latches DIAG unless its level is 0 (R29). A conversion of a granted channel keeps its
code as the last one and hands it to its consumer: a pot's gain is the code over 32 (R140); the DC flag follows R32; a
battery sample of 5 mV a step joins the last eight, whose mean is the filter once there are eight (R31), and while the
filter is present the battery state follows from it by the table of R33, with the power state DC or the battery state;
Z is the clamped quotient of R38. A change of the power state goes to the record engine and the stabiliser: LOW
latches BATTERY_LOW and adds the mark with the percent to an OPEN clip; EMPTY latches BATTERY_EMPTY, makes a stop with
reason LOW_POWER pending in REC, abandons a start in ARMING, clears the restart flag in STOPPING and moves a running
stabiliser to HELD with its drives at 0; leaving EMPTY lets both go on, the stabiliser from SETTLING (R33, R115, R81).
Without a change they keep their state. A channel not granted converts nothing (log 14). CHANNEL_STARVED as a scan
frame start of its own is the model's choice (log 4). -/
def Obligations.ConverterScanAndConversions : Prop :=
  (∀ s : State, ∃ t, exec .scanFrameStart s = .next t
    ∧ (∀ i : Fin 4, let c := s.scan.grants.contains (classCChannel (classCAt i.val))
        let u := s.scan.unconverted[i]
        t.scan.unconverted[i] = (if c then 0 else min (u + 1) 64)
        ∧ t.scan.starved[i] = (if c then false else s.scan.starved[i] || u == 63))
    ∧ t.scan.starvations = min (s.scan.starvations + ((List.finRange 4).countP fun i =>
        !s.scan.grants.contains (classCChannel (classCAt i.val)) && s.scan.unconverted[i] == 63)) 65535
    ∧ ((∃ i : Fin 4, s.scan.grants.contains (classCChannel (classCAt i.val)) = false ∧ s.scan.unconverted[i] = 63) →
        isMuted .diag s = false → isLatched .diag t = true)
    ∧ t.scan.grants.take 2 = [.yawGyro, .pitchGyro] ∧ t.scan.code = s.scan.requested ∧ t.scan.timer = 0
    ∧ (3 ≤ s.scan.requested → s.scan.requested ≤ 7 →
      let first := (classCIndex s.scan.pointer).val
      let n : Nat := if s.scan.requested = 7 then 0 else if s.scan.requested = 6 then 3 else 4
      let ring : List Channel := [.battery, .dcInput, .pot1, .pot2]
      let classB : List Channel := if s.scan.requested ≠ 7 then [.zoomPos, .irisHall]
        else if s.scan.altIris then [.irisHall] else [.zoomPos]
      t.scan.grants = [.yawGyro, .pitchGyro] ++ classB ++ (ring.drop first ++ ring.take first).take n
      ∧ t.scan.altIris = (if s.scan.requested = 7 then !s.scan.altIris else s.scan.altIris)
      ∧ (classCIndex t.scan.pointer).val = (first + n) % 4)
    ∧ t.scan.due = false ∧ t.scan.last = s.scan.last
    ∧ t.lines = s.lines ∧ t.clock = s.clock ∧ t.power = s.power ∧ t.vf = s.vf ∧ t.mem = s.mem) ∧
  (∀ (c : ClassC) (s : State), s.scan.grants.contains (classCChannel c) = false →
    s.scan.unconverted[classCIndex c] = 63 → s.scan.starvations < 65535 →
    ∃ t, exec (.channelStarved c) s = .next t
      ∧ t.scan.starved[classCIndex c] = true ∧ t.scan.unconverted[classCIndex c] = 64
      ∧ s.scan.starvations < t.scan.starvations
      ∧ (isMuted .diag s = false → isLatched .diag t = true)
      ∧ t.scan.code = s.scan.requested ∧ t.lines = s.lines ∧ t.clock = s.clock ∧ t.vf = s.vf ∧ t.mem = s.mem) ∧
  (∀ (code : BitVec 12) (s : State),
    (∀ ch : Channel, s.scan.grants.contains ch = false → exec (.conversionComplete ch code) s = .next s)
    ∧ (s.scan.grants.contains .pot1 = true → exec (.conversionComplete .pot1 code) s = .next { s with
        scan := { s.scan with last := put s.scan.last 6 (some code.toNat) },
        audio := { s.audio with
          channels := put s.audio.channels 0 { s.audio.channels[0] with pot := some (code.toNat / 32) } } })
    ∧ (s.scan.grants.contains .pot2 = true → exec (.conversionComplete .pot2 code) s = .next { s with
        scan := { s.scan with last := put s.scan.last 7 (some code.toNat) },
        audio := { s.audio with
          channels := put s.audio.channels 1 { s.audio.channels[1] with pot := some (code.toNat / 32) } } })
    ∧ (s.scan.grants.contains .dcInput = true → ∃ t, exec (.conversionComplete .dcInput code) s = .next t
        ∧ t.power.dc = (if s.power.dc then decide (9700 ≤ 5 * code.toNat) else decide (10000 < 5 * code.toNat))
        ∧ t.power.state = (if s.power.filter = none then .normal else if t.power.dc then .dc else
            batteryPower s.power.battery)
        ∧ t.scan.last[5] = some code.toNat ∧ t.power.filter = s.power.filter ∧ t.clock = s.clock
        ∧ t.lines = s.lines ∧ t.vf = s.vf ∧ t.mem = s.mem)
    ∧ (s.scan.grants.contains .battery = true → ∃ t, exec (.conversionComplete .battery code) s = .next t
        ∧ t.power.samples = (if s.power.samples.length ≥ 8 then s.power.samples.tail else s.power.samples)
            ++ [5 * code.toNat]
        ∧ (t.power.samples.length ≥ 8 → t.power.filter = some (t.power.samples.sum / 8))
        ∧ (t.power.samples.length < 8 → t.power.filter = s.power.filter)
        ∧ (t.power.filter = none → t.power = { s.power with samples := t.power.samples })
        ∧ (∀ f, t.power.filter = some f →
          t.power.state = (if s.power.dc then .dc else batteryPower t.power.battery)
          ∧ (s.power.battery = .normal → t.power.battery
              = (if f < s.power.empty then .empty else if f < s.power.low then .low else .normal))
          ∧ (s.power.battery = .low → t.power.battery
              = (if f < s.power.empty then .empty else if f < s.power.low + 300 then .low else .normal))
          ∧ (s.power.battery = .empty → t.power.battery
              = (if f < s.power.empty + 300 then .empty else if f < s.power.low + 300 then .low else .normal)))
        ∧ t.scan.last[4] = some code.toNat ∧ t.power.dc = s.power.dc ∧ t.clock = s.clock
        ∧ t.lines = s.lines ∧ t.vf = s.vf ∧ t.mem = s.mem)
    ∧ (s.scan.grants.contains .zoomPos = true → ∃ t, exec (.conversionComplete .zoomPos code) s = .next t
        ∧ t.zoom.z = some (min 4095 ((((code.toNat : Int) - s.zoom.wide) * 4095).tdiv
            ((s.zoom.tele : Int) - s.zoom.wide)).toNat)
        ∧ t.scan.last[2] = some code.toNat ∧ t.clock = s.clock ∧ t.lines = s.lines ∧ t.power = s.power
        ∧ t.vf = s.vf ∧ t.mem = s.mem)
    ∧ (s.scan.grants.contains .irisHall = true → ∃ t, exec (.conversionComplete .irisHall code) s = .next t
        ∧ t.iris.pos = some (code.toNat / 16) ∧ t.scan.last[3] = some code.toNat ∧ t.clock = s.clock
        ∧ t.lines = s.lines ∧ t.power = s.power ∧ t.stab = s.stab ∧ t.vf = s.vf ∧ t.mem = s.mem))
  ∧ ∀ (ch : Channel) (code : BitVec 12) (s : State), (ch = .battery ∨ ch = .dcInput) →
    s.scan.grants.contains ch = true → ∃ t, exec (.conversionComplete ch code) s = .next t
      ∧ (t.power.state = s.power.state → t.recorder = s.recorder ∧ t.stab = s.stab ∧ t.events = s.events)
      ∧ (t.power.state ≠ s.power.state → t.power.state = .low →
          (isMuted .batteryLow s = false → isLatched .batteryLow t = true)
          ∧ ∀ k, openClip s = some k → k.state = .opened → k.marks.length < 16 → openClip t = some { k with
              marks := k.marks ++ [⟨.batteryLow, k.frames - 1, some (batteryPercent t.power.filter t.power.empty)⟩] })
      ∧ (t.power.state ≠ s.power.state → s.power.state = .empty →
          t.recorder.powerEmpty = false ∧ t.stab.powerEmpty = false
          ∧ (s.stab.state = .held → s.stab.mode = .on → t.stab.state = .settling ∧ t.stab.settling = 0
              ∧ (isMuted .stabState s = false → isLatched .stabState t = true)))
      ∧ (t.power.state ≠ s.power.state → t.power.state = .empty →
          t.recorder.powerEmpty = true ∧ t.stab.powerEmpty = true
          ∧ (isMuted .batteryEmpty s = false → isLatched .batteryEmpty t = true)
          ∧ (s.recorder.state = .recording → s.recorder.pendingStop = none → t.recorder.state = .recording
              ∧ t.recorder.pendingStop = some .lowPower)
          ∧ (s.recorder.state = .arming → t.recorder.pendingStart = none
              ∧ t.recorder.state = (if 0 < s.recorder.limit ∧ s.clock.mode = .freeRun then .prerec else .standby))
          ∧ (s.recorder.state = .stopping → t.recorder.state = .stopping ∧ t.recorder.restart = false)
          ∧ ((s.stab.state = .settling ∨ s.stab.state = .active ∨ s.stab.state = .panning) →
              t.stab.state = .held ∧ t.stab.mode = s.stab.mode ∧ t.stab.yaw.drive = 0 ∧ t.stab.pitch.drive = 0
              ∧ (isMuted .stabState s = false → isLatched .stabState t = true)))
      ∧ t.clock = s.clock ∧ t.lines = s.lines ∧ t.vf = s.vf ∧ t.mem = s.mem

/-- The battery percent is (F − EM) × 100 div (16,800 − EM), clamped to 0 to 100, and 0 while the filter is
absent; the page reports it in its byte 16, and the snapshot's millivolts are 0 while the filter is absent
(R34). -/
def Obligations.BatteryPercentByTheRule : Prop :=
  (∀ empty : Nat, 6000 ≤ empty → empty ≤ 16200 → batteryPercent none empty = 0
    ∧ (∀ f, empty ≤ f → batteryPercent (some f) empty = min 100 ((f - empty) * 100 / (16800 - empty)))
    ∧ (∀ f, f < empty → batteryPercent (some f) empty = 0))
  ∧ ∀ (label : Label) (s : State),
    byteAt (composePage label s) 16 = BitVec.ofNat 8 (batteryPercent s.power.filter s.power.empty)
    ∧ (s.power.filter = none → fieldAt (snapshot s) 124 2 = 0)

/-! ### Lens drive and tracking (Chapters 3 and 4) -/

/-- ZOOM_MOVE: while an operator holds the zoom it is OVERRIDDEN and the conflict is recorded with the request's kind;
while a recall holds it, BUSY; otherwise it takes the zoom with the target clamped to the soft limits and the speed
to 1 to 127 (R41, R42, R43). Before the first Z it stays in progress. At a Z more than 4 from the target the demand
is sign(d) × min(maximum speed, 4 + |d| div 16) and it stays in progress, and within 4 it completes at once, OK or
OK_ADJUSTED, with the zoom let go (R43). A request of either kind taken while another host request holds the zoom
preempts it: that one completes PREEMPTED with the present Z (R41). ZOOM_SPEED is OVERRIDDEN under the operator, with
the conflict recorded as kind 0x11, and BUSY under a recall (R41, R42). On a free zoom it takes the axis for the
duration, clamped to 1 to 10,000 ms, at the speed, −128 as −127: the demand is that speed, and the request stays in
progress; at its expiry the zoom is let go with a demand of 0 and the request completes OK, or OK_ADJUSTED when a
parameter was clamped (R44). An absent Z is reported as 0 (the model's choice, log 18), and the expiry is the
occurrence it names (log 1). The request preempted completes before the new one (the model's reading, log 62). -/
def Obligations.ZoomRequestsByTheHolder : Prop :=
  (∀ (n : Fin 32) (target : BitVec 16) (speed : Byte) (s : State),
    isStarted n (.zoomMove n target speed) s = true →
    (s.zoom.holder = .operator → exec (.zoomMove n target speed) s = .next (answered n .overridden
        (field16 (s.zoom.z.getD 0)) (latch .controlConflict
          { s with conflict := some ⟨.zoom, 0x10, stampNow s⟩ })))
    ∧ (s.zoom.holder = .recall → exec (.zoomMove n target speed) s
        = .next (answered n .busy (field16 (s.zoom.z.getD 0)) s))
    ∧ (s.zoom.holder = .none → s.zoom.host = none → s.zoom.z = none → ∃ t,
        exec (.zoomMove n target speed) s = .next t ∧ t.zoom.holder = .host ∧ t.zoom.applied = 0
        ∧ (let dest := clampNat s.zoom.softMin s.zoom.softMax target.toNat
           let v := clampNat 1 127 speed.toNat
           t.zoom.host = some ⟨n, .move dest v, dest != target.toNat || v != speed.toNat⟩)
        ∧ t = { running n s with zoom := t.zoom }))
  ∧ (∀ (n : Fin 32) (target : BitVec 16) (speed : Byte) (z : Nat) (old : Option HostZoom) (s : State),
    isStarted n (.zoomMove n target speed) s = true → s.zoom.z = some z → s.zoom.host = old →
    s.zoom.holder = (if old.isSome then .host else .none) →
    (∀ h, old = some h → s.unit.slots[h.slot].state = .running) →
    let dest := clampNat s.zoom.softMin s.zoom.softMax target.toNat
    let v := clampNat 1 127 speed.toNat
    let adjusted := dest != target.toNat || v != speed.toNat
    let d : Int := (dest : Int) - z
    let before : State := match old with
      | some h => answered h.slot .preempted (field16 z) s
      | none => s
    ∃ t, exec (.zoomMove n target speed) s = .next t
      ∧ (4 < d.natAbs → t.zoom.holder = .host ∧ t.zoom.host = some ⟨n, .move dest v, adjusted⟩
        ∧ t.zoom.demand = d.sign * (min v (4 + d.natAbs / 16) : Nat) ∧ t.unit = (running n before).unit)
      ∧ (d.natAbs ≤ 4 → t.zoom.holder = .none ∧ t.zoom.host = none ∧ t.zoom.demand = 0 ∧ t.zoom.applied = 0
        ∧ t.unit = (answered n (if adjusted then .okAdjusted else .ok) (field16 z) before).unit)
      ∧ t.zoom.z = some z ∧ t = { s with zoom := t.zoom, unit := t.unit, events := t.events })
  ∧ (∀ (n : Fin 32) (speed : Byte) (duration : BitVec 16) (h : HostZoom) (s : State),
    isStarted n (.zoomSpeed n speed duration) s = true → s.zoom.holder = .host → s.zoom.host = some h →
    s.unit.slots[h.slot].state = .running → ∃ t, exec (.zoomSpeed n speed duration) s = .next t
      ∧ t.zoom.holder = .host ∧ t.zoom.host.map HostZoom.slot = some n
      ∧ t.unit = (running n (answered h.slot .preempted (field16 (s.zoom.z.getD 0)) s)).unit
      ∧ t = { s with zoom := t.zoom, unit := t.unit, events := t.events }) ∧
  (∀ (n : Fin 32) (speed : Byte) (duration : BitVec 16) (s : State),
    isStarted n (.zoomSpeed n speed duration) s = true →
    (s.zoom.holder = .operator → exec (.zoomSpeed n speed duration) s = .next (answered n .overridden
        (field16 (s.zoom.z.getD 0)) (latch .controlConflict
          { s with conflict := some ⟨.zoom, 0x11, stampNow s⟩ })))
    ∧ (s.zoom.holder = .recall → exec (.zoomSpeed n speed duration) s
        = .next (answered n .busy (field16 (s.zoom.z.getD 0)) s))) ∧
  ((∀ (n : Fin 32) (speed : Byte) (duration : BitVec 16) (s : State),
    isStarted n (.zoomSpeed n speed duration) s = true → s.zoom.holder = .none → s.zoom.host = none →
    let v : Int := if speed.toInt < -127 then -127 else speed.toInt
    let ms := clampNat 1 10000 duration.toNat
    ∃ t, exec (.zoomSpeed n speed duration) s = .next t ∧ t.zoom.holder = .host ∧ t.zoom.demand = v
      ∧ t.zoom.host = some ⟨n, .speed v (27000 * ms), decide (v ≠ speed.toInt) || ms != duration.toNat⟩
      ∧ t.unit = (running n s).unit
      ∧ t = { s with zoom := t.zoom, unit := t.unit, events := t.events })
  ∧ ∀ (n : Fin 32) (v : Int) (left : Nat) (adjusted : Bool) (s : State),
    s.zoom.host = some ⟨n, .speed v left, adjusted⟩ → s.unit.slots[n].state.inService = true →
    ∃ t, exec .zoomSpeedExpiry s = .next t ∧ t.zoom.holder = .none ∧ t.zoom.host = none ∧ t.zoom.demand = 0
      ∧ t.zoom.applied = 0
      ∧ t.unit = (answered n (if adjusted then .okAdjusted else .ok) (field16 (s.zoom.z.getD 0)) s).unit
      ∧ t = { s with zoom := t.zoom, unit := t.unit, events := t.events })

/-- The applied speed after a change of the lens drive's inputs: 0 while Z is absent, while a stall cut is in force,
while the lag inhibit is in force, and toward a soft limit that Z has reached. With tracking ON the lag inhibit is set
at a lag above 256 and cleared under 64, and between them it stays as it was: the speed is halved where it is clear
and held at 0 where it is set; with tracking OFF it is clear. EMPTY halves the speed. The duty is its magnitude times
8, and the direction keeps its value while it is 0 (R38, R45, R46, R47). The flag of a limit is set when the limit
sets a speed other than 0 to 0, with LENS_LIMIT latched where the flag was clear, and is cleared when Z is found
inside that limit (R46). So it is at a zoom conversion under the operator, whose rocker is the demand. The focus lag
is |target − position|, 0 while the position is undefined; with tracking ON a rise from 256 or less to above 256
latches TRACK_LAG, and nothing else does (R67). A new Z is tracked: at a granted zoom conversion the focal length is
the interpolation of the focal lengths at Z, and the stabiliser is handed it (R63). Where the conversion fires no cue
and does not end a recall, with tracking ON and a Z other than the last one tracked the target of Z and D is offered
and that Z recorded: the focus drive takes it in IDLE or MOVING under holder NONE or TRACKING, clamped to the near
limit, at rate 16 under holder TRACKING, with the lag and its latch following, and discards it in any other state or
under any other holder; while a recall moves the lens tracking is suspended and the target discarded (the model's
reading, log 19). With tracking OFF or an equal Z nothing is offered (R64, R66). The tracking block takes Z before the
cues and the lens profile (the model's choice, log 20). -/
def Obligations.AppliedSpeedRespectsTheLimits : Prop :=
  ∀ s : State,
    (s.zoom.z = none → (deriveApplied s).zoom.applied = 0)
    ∧ (s.zoom.stallCut = true → (deriveApplied s).zoom.applied = 0)
    ∧ (s.track.on = true → 256 < s.track.lag → (deriveApplied s).zoom.applied = 0)
    ∧ (s.track.on = true → s.zoom.lagInhibit = true → 64 ≤ s.track.lag → (deriveApplied s).zoom.applied = 0)
    ∧ ((s.track.on = false ∨ s.track.lag < 64) → (deriveApplied s).zoom.lagInhibit = false)
    ∧ (256 < s.track.lag → s.track.on = true → (deriveApplied s).zoom.lagInhibit = true)
    ∧ (64 ≤ s.track.lag → s.track.lag ≤ 256 → s.track.on = true →
        (deriveApplied s).zoom.lagInhibit = s.zoom.lagInhibit)
    ∧ (∀ z, s.zoom.z = some z → z ≤ s.zoom.softMin → 0 ≤ (deriveApplied s).zoom.applied)
    ∧ (∀ z, s.zoom.z = some z → s.zoom.softMax ≤ z → (deriveApplied s).zoom.applied ≤ 0)
    ∧ (∀ z, s.zoom.z = some z → s.zoom.softMin < z → z < s.zoom.softMax → s.zoom.stallCut = false →
        s.track.on = false → s.power.state ≠ .empty → (deriveApplied s).zoom.applied = s.zoom.demand)
    ∧ (∀ z, s.zoom.z = some z → s.zoom.softMin < z → z < s.zoom.softMax → s.zoom.stallCut = false →
        s.track.on = true → s.zoom.lagInhibit = false → s.track.lag ≤ 256 →
        let v : Int := if 64 ≤ s.track.lag then s.zoom.demand.tdiv 2 else s.zoom.demand
        (deriveApplied s).zoom.applied = (if s.power.state = .empty then v.tdiv 2 else v))
    ∧ (deriveApplied s).zoom.duty = (deriveApplied s).zoom.applied.natAbs * 8
    ∧ (0 < (deriveApplied s).zoom.applied → (deriveApplied s).zoom.dirTele = true)
    ∧ ((deriveApplied s).zoom.applied < 0 → (deriveApplied s).zoom.dirTele = false)
    ∧ ((deriveApplied s).zoom.applied = 0 → (deriveApplied s).zoom.dirTele = s.zoom.dirTele)
    ∧ (∀ z, s.zoom.z = some z →
        let inhibited : Bool := s.track.on
          && (decide (256 < s.track.lag) || (s.zoom.lagInhibit && decide (64 ≤ s.track.lag)))
        let halved : Int := if s.track.on = true ∧ 64 ≤ s.track.lag then s.zoom.demand.tdiv 2 else s.zoom.demand
        let v1 : Int := if inhibited then 0 else halved
        let v : Int := if s.power.state = .empty then v1.tdiv 2 else v1
        let wide : Bool := decide (v < 0) && decide (z ≤ s.zoom.softMin)
        let tele : Bool := decide (0 < v) && decide (s.zoom.softMax ≤ z)
        let arrival : Bool := (wide && !s.zoom.wideFlag) || (tele && !s.zoom.teleFlag)
        (deriveApplied s).zoom.applied = (if wide || tele || s.zoom.stallCut then 0 else v)
        ∧ (deriveApplied s).zoom.wideFlag = (wide || (s.zoom.wideFlag && decide (z ≤ s.zoom.softMin)))
        ∧ (deriveApplied s).zoom.teleFlag = (tele || (s.zoom.teleFlag && decide (s.zoom.softMax ≤ z)))
        ∧ (arrival = true → isMuted .lensLimit s = false → isLatched .lensLimit (deriveApplied s) = true)
        ∧ (arrival = false → (deriveApplied s).events = s.events))
    ∧ deriveApplied s = { s with zoom := (deriveApplied s).zoom, events := (deriveApplied s).events }
    ∧ (∀ code : BitVec 12, s.scan.grants.contains .zoomPos = true → s.zoom.holder = .operator →
        s.track.on = false → s.power.state ≠ .empty → (∀ i : Fin 4, s.cues[i].enable = false) →
        ∃ t z, exec (.conversionComplete .zoomPos code) s = .next t ∧ t.zoom.z = some z
          ∧ t.zoom.demand = s.zoom.rocker
          ∧ (let wide : Bool := decide (s.zoom.rocker < 0) && decide (z ≤ s.zoom.softMin)
            let tele : Bool := decide (0 < s.zoom.rocker) && decide (s.zoom.softMax ≤ z)
            let arrival : Bool := (wide && !s.zoom.wideFlag) || (tele && !s.zoom.teleFlag)
            t.zoom.applied = (if wide || tele || s.zoom.stallCut then 0 else s.zoom.rocker)
            ∧ t.zoom.wideFlag = (wide || (s.zoom.wideFlag && decide (z ≤ s.zoom.softMin)))
            ∧ t.zoom.teleFlag = (tele || (s.zoom.teleFlag && decide (s.zoom.softMax ≤ z)))
            ∧ (arrival = true → isMuted .lensLimit s = false → isLatched .lensLimit t = true)
            ∧ (arrival = false → t.events = s.events)))
    ∧ (∀ code : BitVec 12, s.scan.grants.contains .zoomPos = true →
        let z := min 4095 ((((code.toNat : Int) - s.zoom.wide) * 4095).tdiv ((s.zoom.tele : Int) - s.zoom.wide)).toNat
        let k := min (z / 256) 15
        let f := z - 256 * k
        let focal := (s.track.focal.getD k 0 * (256 - f) + s.track.focal.getD (k + 1) 0 * f + 128) / 256
        ∃ t, exec (.conversionComplete .zoomPos code) s = .next t ∧ t.zoom.z = some z
          ∧ t.track.focalLength = focal ∧ t.stab = { s.stab with focal := focal }
          ∧ ((∀ (i : Fin 4) (v p : Nat), s.cues[i].source = .zoom v → s.cues[i].previous = some p →
                s.cues[i].enable = true → ¬(p < v ∧ v ≤ z) ∧ ¬(v < p ∧ z ≤ v)) →
            (∀ r, s.shots.op = some (.moving r) → r.focusDone = false ∨ r.irisDone = false) →
            let follows : Prop := s.focus.state = .idle ∨ s.focus.state = .moving
            let free : Prop := s.focus.holder = .none ∨ s.focus.holder = .tracking
            let suspended : Prop := ∃ r, s.shots.op = some (.moving r)
            let tracked : Tracking := { s.track with focalLength := focal, lastZ := some z }
            ((s.track.on = false ∨ s.track.lastZ = some z) →
              t.focus = s.focus ∧ t.track = { s.track with focalLength := focal })
            ∧ ∀ table, s.track.on = true → s.track.lastZ ≠ some z → s.track.table = some table →
              (¬(follows ∧ free ∧ ¬suspended) → t.focus = s.focus ∧ t.track = tracked)
              ∧ (follows → free → ¬suspended →
                let r := min (s.track.d / 256) 7
                let g := s.track.d - 256 * r
                let row (r : Nat) : Nat :=
                  table.getD (17 * r + k) 0 * (256 - f) + table.getD (17 * r + (k + 1)) 0 * f
                let target := min ((row r * (256 - g) + row (r + 1) * g + 32768) / 65536) s.focus.near
                let lag : Nat := match s.focus.pos with
                  | some p => ((target : Int) - p).natAbs
                  | none => 0
                t.focus = { s.focus with
                    target := target, holder := .tracking, rate := 16
                    state := if s.focus.pos = some target then .idle else .moving
                    phase := if s.focus.state = .moving then s.focus.phase else 0 }
                ∧ t.track = { tracked with lag := lag }
                ∧ (s.track.lag ≤ 256 → 256 < lag → isMuted .trackLag s = false → isLatched .trackLag t = true))))
    ∧ (let lag : Nat := match s.focus.pos with
        | some p => ((s.focus.target : Int) - p).natAbs
        | none => 0
      let rise : Bool := s.track.on && decide (s.track.lag ≤ 256) && decide (256 < lag)
      (updateLag s).track = { s.track with lag := lag } ∧ (updateLag s).focus = s.focus
      ∧ (rise = true → isMuted .trackLag s = false → isLatched .trackLag (updateLag s) = true)
      ∧ (rise = false → isLatched .trackLag (updateLag s) = isLatched .trackLag s)
      ∧ updateLag s = { s with
          track := (updateLag s).track, zoom := (updateLag s).zoom, events := (updateLag s).events })

/-- A zoom stall at the scan frame start that brings the stall count to 200: LENS_FAULT latches unless its level is
0, the applied speed is 0, and the stall window stops. A host request on the zoom completes STALLED with the axis let
go; a recall ends STALLED with its entry on the stack, the zoom's claim over and the claims on the other axes
withdrawn; under the operator, or with no holder, the holder, the demand and the rocker stay and the stall cut is set
(R48, R73). The frame start at which the settle count of an IRIS_SET or of a recall's iris part reaches 50, with the
command at the target and no cue enabled: the axis is let go, LENS_FAULT latches unless its level is 0, and the
request completes STALLED with the position, or the recall ends STALLED. Under the operator, or with no holder, the
settle count does not run, and no frame start finds an iris stall (R56, R73). ZOOM_STALL and IRIS_STALL as starts of
their own, and as commands that do nothing where no stall is found, are the model's choice (log 4). -/
def Obligations.StallsEndTheMove : Prop :=
  (∀ (s : State) (z r : Nat), s.zoom.z = some z → s.zoom.stall = some ⟨r, 199⟩ →
    16 ≤ s.zoom.applied.natAbs → ((z : Int) - r).natAbs < 2 →
    (∀ h : HostZoom, s.zoom.holder = .host → s.zoom.host = some h →
      s.unit.slots[h.slot].state.inService = true →
      ∃ t, exec .zoomStall s = .next t ∧ t.zoom.holder = .none ∧ t.zoom.host = none ∧ t.zoom.applied = 0
        ∧ (isMuted .lensFault s = false → isLatched .lensFault t = true)
        ∧ t.unit = (answered h.slot .stalled (field16 z) s).unit
        ∧ t.scan.code = s.scan.requested ∧ t.clock = s.clock ∧ t.lines = s.lines ∧ t.vf = s.vf ∧ t.mem = s.mem)
    ∧ (∀ m : Recall, s.zoom.holder = .recall → s.shots.op = some (.moving m) →
      (∀ k, m.source = .request k → s.unit.slots[k].state = .running) →
      ∃ t, exec .zoomStall s = .next t ∧ t.zoom.holder = .none ∧ t.zoom.recallClaim = none ∧ t.zoom.demand = 0
        ∧ t.zoom.applied = 0 ∧ t.zoom.stall = none ∧ recallEnded .stalled .zoom m s t
        ∧ (isMuted .lensFault s = false → isLatched .lensFault t = true)
        ∧ t.clock = s.clock ∧ t.lines = s.lines ∧ t.recorder = s.recorder ∧ t.vf = s.vf ∧ t.mem = s.mem)
    ∧ (s.zoom.holder = .operator ∨ s.zoom.holder = .none →
      ∃ t, exec .zoomStall s = .next t ∧ t.zoom.applied = 0 ∧ t.zoom.stallCut = true ∧ t.zoom.stall = none
        ∧ t.zoom.holder = s.zoom.holder ∧ t.zoom.demand = s.zoom.demand ∧ t.zoom.rocker = s.zoom.rocker
        ∧ (isMuted .lensFault s = false → isLatched .lensFault t = true)
        ∧ t.focus = s.focus ∧ t.iris = s.iris ∧ t.shots = s.shots ∧ t.unit = s.unit ∧ t.clock = s.clock
        ∧ t.lines = s.lines ∧ t.recorder = s.recorder ∧ t.vf = s.vf ∧ t.mem = s.mem))
  ∧ (∀ (order : List Receiver) (s : State) (p t' : Nat), s.iris.pos = some p → s.iris.target = some t' →
    s.iris.command = some t' → 1 < ((p : Int) - t').natAbs → s.iris.settle = 49 →
    s.clock.preset = none → (∀ i : Fin 4, s.cues[i].enable = false) → s.recorder.state = .standby →
    (∀ h : HostIris, s.iris.holder = .host → s.iris.host = some h → s.unit.slots[h.slot].state = .running →
      ∃ t, exec (.irisStall order) s = .next t ∧ t.iris.holder = .none ∧ t.iris.host = none ∧ t.iris.settle = 0
        ∧ t.iris.command = some t' ∧ t.iris.target = some t'
        ∧ (isMuted .lensFault s = false → isLatched .lensFault t = true)
        ∧ t.unit.slots[h.slot].state = .completing
        ∧ ⟨h.slot, s.unit.workBase, .stalled, [byteOf p], none, true⟩ ∈ t.unit.completions
        ∧ t.lines = s.lines ∧ t.scan = s.scan ∧ t.power = s.power ∧ t.stab = s.stab ∧ t.mem = s.mem)
    ∧ ∀ m : Recall, s.iris.holder = .recall → s.iris.host = none → s.shots.op = some (.moving m) →
      (∀ k, m.source = .request k → s.unit.slots[k].state = .running) →
      ∃ t, exec (.irisStall order) s = .next t ∧ t.iris = { s.iris with holder := .none, settle := 0 }
        ∧ recallEnded .stalled .iris m s t
        ∧ (isMuted .lensFault s = false → isLatched .lensFault t = true)
        ∧ t.lines = s.lines ∧ t.scan = s.scan ∧ t.power = s.power ∧ t.stab = s.stab ∧ t.mem = s.mem)
  ∧ ∀ (order : List Receiver) (s : State), (s.iris.holder = .operator ∨ s.iris.holder = .none) →
    (∀ i : Fin 4, s.cues[i].enable = false) →
    exec (.irisStall order) s = .next s
    ∧ ∃ t, exec (.frameStart order) s = .next t ∧ t.iris = { s.iris with command := t.iris.command }

/-- FOCUS_STEP: in REFERENCING a step counts, and the 8,704th stops the stepping in FAULT with LENS_FAULT, each with a
step on the output toward 0 (R50, R59). In MOVING, with no cue enabled, the position goes one step toward the target,
with a step on the output in that direction, IDLE is entered at the target, and the lag follows (R51, R59, R67). A
FOCUS_MOVE whose target the step reaches completes OK, or OK_ADJUSTED if its adjusted flag is set, with the position
as its result, the holder becomes NONE, and D is recomputed from the position while a tracking table is present (R52,
R66); short of the target the holder and the request stay as they are. A recall claim whose target the step reaches is
settled, with the holder NONE (R51); where the other two axes have settled before it the recall ends: its entry leaves
the stack, a spill entry if there is one and otherwise the newest bank, D is the entry's, tracking is the entry's flag
while a tracking table is present and OFF otherwise, the last tracked Z is absent, and the recall completes OK, or
OK_ADJUSTED if its adjusted flag is set (R73), a cue that started it taking yes as its answer (R169).
REFERENCING_FAULT is that 8,704th step. REFERENCING_FAULT as a step of its own is the model's choice (log 4), and so
are the order of a step's parts (log 20), the count of the steps given and what the direction output holds between
steps (log 57). -/
def Obligations.FocusSteps : Prop :=
  ∀ s : State,
    (s.focus.state = .referencing → s.focus.refSteps < 8703 → exec .focusStep s = .next { s with focus :=
      { s.focus with
        refSteps := s.focus.refSteps + 1, phase := s.focus.phase - 27000
        stepsOut := s.focus.stepsOut + 1, stepNear := false } })
    ∧ (s.focus.state = .referencing → s.focus.refSteps = 8703 →
      let fault : State := latch .lensFault { s with focus :=
        { s.focus with
          state := .fault, refSteps := 8704, phase := 0, stepsOut := s.focus.stepsOut + 1, stepNear := false } }
      exec .focusStep s = .next fault ∧ exec .referencingFault s = .next fault)
    ∧ (∀ p, s.focus.state = .moving → s.focus.pos = some p → (∀ i : Fin 4, s.cues[i].enable = false) →
        let q := if p < s.focus.target then p + 1 else if s.focus.target < p then p - 1 else p
        ∃ t, exec .focusStep s = .next t ∧ t.focus.pos = some q ∧ t.focus.target = s.focus.target
          ∧ t.focus.state = (if q = s.focus.target then .idle else .moving)
          ∧ t.track.lag = ((s.focus.target : Int) - q).natAbs
          ∧ (p ≠ s.focus.target → t.focus.stepsOut = s.focus.stepsOut + 1
            ∧ t.focus.stepNear = decide (p < s.focus.target))
          ∧ ((q ≠ s.focus.target ∨ s.focus.holder = .none ∨ s.focus.holder = .operator
              ∨ s.focus.holder = .tracking) →
            t.focus.holder = s.focus.holder ∧ t.focus.host = s.focus.host ∧ t.shots = s.shots ∧ t.unit = s.unit
            ∧ t.track.d = s.track.d)
          ∧ (∀ h, q = s.focus.target → s.focus.holder = .host → s.focus.host = some h →
            s.unit.slots[h.slot].state = .running →
            t.focus.holder = .none ∧ t.focus.host = none ∧ t.shots = s.shots
            ∧ t.unit = (answered h.slot (if h.adjusted then .okAdjusted else .ok) (field16 q) s).unit
            ∧ t.track.d = (match s.track.table with
              | some table => inverseD table (s.zoom.z.getD 0) q
              | none => s.track.d))
          ∧ (∀ r, q = s.focus.target → s.focus.holder = .recall → s.shots.op = some (.moving r) →
            (r.zoomDone = false ∨ r.irisDone = false) → t.focus.holder = .none ∧ t.unit = s.unit
            ∧ t.shots = { s.shots with op := some (.moving { r with focusDone := true }) })
          ∧ (∀ r, q = s.focus.target → s.focus.holder = .recall → s.shots.op = some (.moving r) →
            r.zoomDone = true → r.irisDone = true →
            (∀ k, r.source = .request k → s.unit.slots[k].state = .running) →
            t.focus.holder = .none
            ∧ t.shots = { s.shots with
              op := none, spill := s.shots.spill - 1
              banks := if 0 < s.shots.spill then s.shots.banks else s.shots.banks.dropLast }
            ∧ t.track.d = r.entry.d ∧ t.track.on = (r.entry.tracking && s.track.table.isSome)
            ∧ t.track.lastZ = none
            ∧ t.unit = recallUnit r.source (if r.adjusted then .okAdjusted else .ok)
              (recallBytes t.shots.depth r.entry) s
            ∧ ∀ i : Fin 4, t.cues[i].taken = (s.cues[i].taken || decide (r.source = .cue i)))
          ∧ t.clock = s.clock ∧ t.lines = s.lines ∧ t.power = s.power ∧ t.vf = s.vf
          ∧ t.iris = s.iris ∧ t.recorder = s.recorder ∧ t.mem = s.mem)

/-- FOCUS_MOVE: BUSY before home is found, STALLED in FAULT; in IDLE and MOVING it is OVERRIDDEN under the operator
with the conflict recorded and BUSY under a recall, and otherwise it takes the focus, an older FOCUS_MOVE completing
PREEMPTED with the position at that moment (R51, R52). Away from the target it stays in progress, MOVING, with the
target clamped to the near limit and the rate to 1 to 16 (0 as 4), and TRACK_LAG latched where the lag rises above 256
with tracking ON (R67); at the target it completes at once, OK, or OK_ADJUSTED where the target was clamped or the
rate is 17 or more, with the holder NONE and D recomputed while a tracking table is present (R66). IRIS_SET:
OVERRIDDEN under the operator with the conflict recorded, BUSY under a recall; otherwise it takes the iris with the
target, one above 255 as 255, the settle count at 0 where no claim held the iris or the target changes, and stays in
progress, an older IRIS_SET completing PREEMPTED with the position (R56). At each new iris position and at each frame
start it completes OK, or OK_ADJUSTED if the target was clamped, where the position is within 1 of the target, and the
holder becomes NONE; at a frame start the command is first ramped by 2 in REC and STOPPING and by 16 otherwise, and
the settle count goes up where the command equals the target and the iris has not settled (R55, R56). A refusal
reports the position (the model's reading, log 17), and an absent one as 0 (the model's choice, log 18). The
request preempted completes before the new one (the model's reading, log 62). -/
def Obligations.FocusAndIrisRequests : Prop :=
  (∀ (n : Fin 32) (target : BitVec 16) (rate : Byte) (s : State),
    isStarted n (.focusMove n target rate) s = true →
    let now := field16 (s.focus.pos.getD 0)
    ((s.focus.state = .unreferenced ∨ s.focus.state = .referencing) →
      exec (.focusMove n target rate) s = .next (answered n .busy now s))
    ∧ (s.focus.state = .fault → exec (.focusMove n target rate) s = .next (answered n .stalled now s))
    ∧ ((s.focus.state = .idle ∨ s.focus.state = .moving) → s.focus.holder = .operator →
        exec (.focusMove n target rate) s = .next (answered n .overridden now (latch .controlConflict
          { s with conflict := some ⟨.focus, 0x12, stampNow s⟩ })))
    ∧ ((s.focus.state = .idle ∨ s.focus.state = .moving) → s.focus.holder = .recall →
        exec (.focusMove n target rate) s = .next (answered n .busy now s))
    ∧ (∀ (p : Nat) (old : Option HostFocus), (s.focus.state = .idle ∨ s.focus.state = .moving) →
        s.focus.pos = some p → s.focus.host = old →
        (if old.isSome then s.focus.holder = .host else s.focus.holder = .none ∨ s.focus.holder = .tracking) →
        (∀ h, old = some h → s.unit.slots[h.slot].state = .running) → p = min target.toNat s.focus.near →
        let before : State := match old with
          | some h => answered h.slot .preempted now s
          | none => s
        ∃ t, exec (.focusMove n target rate) s = .next t ∧ t.focus.state = .idle ∧ t.focus.holder = .none
          ∧ t.focus.host = none ∧ t.focus.pos = some p ∧ t.focus.target = p
          ∧ t.unit = (answered n (if s.focus.near < target.toNat ∨ 17 ≤ rate.toNat then .okAdjusted else .ok) now
              before).unit
          ∧ t.track.d = (match s.track.table with
            | some table => inverseD table (s.zoom.z.getD 0) p
            | none => s.track.d)
          ∧ t.iris = s.iris ∧ t.clock = s.clock ∧ t.vf = s.vf ∧ t.mem = s.mem)
    ∧ (∀ (p : Nat) (old : Option HostFocus), (s.focus.state = .idle ∨ s.focus.state = .moving) →
        s.focus.pos = some p → s.focus.host = old →
        (if old.isSome then s.focus.holder = .host else s.focus.holder = .none ∨ s.focus.holder = .tracking) →
        (∀ h, old = some h → s.unit.slots[h.slot].state = .running) → p ≠ min target.toNat s.focus.near →
        let before : State := match old with
          | some h => answered h.slot .preempted now s
          | none => s
        ∃ t, exec (.focusMove n target rate) s = .next t
          ∧ t.focus.state = .moving ∧ t.focus.holder = .host ∧ t.focus.target = min target.toNat s.focus.near
          ∧ t.focus.host.map HostFocus.slot = some n
          ∧ t.focus.host.map HostFocus.adjusted = some (decide (s.focus.near < target.toNat ∨ 17 ≤ rate.toNat))
          ∧ t.focus.rate = (if rate = 0 then 4 else min rate.toNat 16) ∧ t.focus.pos = some p
          ∧ t.track.lag = ((min target.toNat s.focus.near : Nat) - (p : Int)).natAbs
          ∧ (s.track.on = true → s.track.lag ≤ 256 → 256 < t.track.lag → isMuted .trackLag s = false →
            isLatched .trackLag t = true)
          ∧ ((s.track.on = false ∨ 256 < s.track.lag ∨ t.track.lag ≤ 256) →
            isLatched .trackLag t = isLatched .trackLag s)
          ∧ t.unit = (running n before).unit ∧ t.iris = s.iris ∧ t.clock = s.clock ∧ t.vf = s.vf ∧ t.mem = s.mem)) ∧
  (∀ (n : Fin 32) (target : BitVec 16) (s : State), isStarted n (.irisSet n target) s = true →
    (s.iris.holder = .operator → exec (.irisSet n target) s = .next (answered n .overridden
        [byteOf (s.iris.pos.getD 0)] (latch .controlConflict
          { s with conflict := some ⟨.iris, 0x13, stampNow s⟩ })))
    ∧ (s.iris.holder = .recall → exec (.irisSet n target) s
        = .next (answered n .busy [byteOf (s.iris.pos.getD 0)] s))
    ∧ (∀ old : Option HostIris, s.iris.holder = (if old.isSome then .host else .none) → s.iris.host = old →
        (∀ h, old = some h → s.unit.slots[h.slot].state = .running) →
        let before : State := match old with
          | some h => answered h.slot .preempted [byteOf (s.iris.pos.getD 0)] s
          | none => s
        ∃ t, exec (.irisSet n target) s = .next t ∧ t.iris.holder = .host
        ∧ (old = none → t.iris.settle = 0)
        ∧ (∀ present, s.iris.target = some present → present ≠ min target.toNat 255 → t.iris.settle = 0)
        ∧ (∀ h, old = some h → s.iris.target = some (min target.toNat 255) → t.iris.settle = s.iris.settle)
        ∧ t.iris.host = some ⟨n, min target.toNat 255, decide (255 < target.toNat)⟩
        ∧ t.iris.target = s.iris.target.map (fun _ => min target.toNat 255)
        ∧ t.iris.pos = s.iris.pos ∧ t.iris.command = s.iris.command
        ∧ t = { running n before with iris := t.iris })) ∧
  (∀ (code : BitVec 12) (h : HostIris) (target : Nat) (s : State), s.scan.grants.contains .irisHall = true →
    s.iris.holder = .host → s.iris.host = some h → s.iris.target = some target →
    s.unit.slots[h.slot].state = .running →
    let p := code.toNat / 16
    let seen : State := { s with scan := { s.scan with last := put s.scan.last 3 (some code.toNat) } }
    (((p : Int) - target).natAbs ≤ 1 → exec (.conversionComplete .irisHall code) s = .next (answered h.slot
        (if h.adjusted then .okAdjusted else .ok) [byteOf p]
        { seen with iris := { s.iris with pos := some p, holder := .none, host := none, settle := 0 } }))
    ∧ (1 < ((p : Int) - target).natAbs → exec (.conversionComplete .irisHall code) s
        = .next { seen with iris := { s.iris with pos := some p } })) ∧
  (∀ (h : HostIris) (p target command : Nat) (s : State), s.iris.holder = .host → s.iris.host = some h →
    s.iris.pos = some p → s.iris.target = some target → s.iris.command = some command →
    s.unit.slots[h.slot].state = .running → s.iris.settle < 49 →
    let k : Nat := if s.recorder.state = .recording ∨ s.recorder.state = .stopping then 2 else 16
    let ramped : Nat := if command < target then command + min k (target - command)
      else command - min k (command - target)
    (((p : Int) - target).natAbs ≤ 1 → lensFrame s = answered h.slot (if h.adjusted then .okAdjusted else .ok)
        [byteOf p] { s with iris :=
          { s.iris with command := some ramped, holder := .none, host := none, settle := 0 } })
    ∧ (1 < ((p : Int) - target).natAbs → lensFrame s = { s with iris := { s.iris with
        command := some ramped, settle := if ramped = target then s.iris.settle + 1 else s.iris.settle } })) ∧
  (∀ (order : List Receiver) (h : HostIris) (p target : Nat) (s : State), s.iris.holder = .host →
    s.iris.host = some h → s.iris.pos = some p → s.iris.target = some target →
    ((p : Int) - target).natAbs ≤ 1 → s.unit.slots[h.slot].state = .running →
    s.clock.preset = none → (∀ i : Fin 4, s.cues[i].enable = false) → s.recorder.state = .standby →
    ∃ t, exec (.frameStart order) s = .next t ∧ t.iris.holder = .none ∧ t.iris.host = none ∧ t.iris.settle = 0
      ∧ t.iris.pos = some p ∧ t.iris.target = some target ∧ t.unit.slots[h.slot].state = .completing
      ∧ ⟨h.slot, s.unit.workBase, if h.adjusted then .okAdjusted else .ok, [byteOf p], none, true⟩
          ∈ t.unit.completions)

/-- LENS_STOP with nothing in progress completes OK with a count of 0 and changes nothing. It ends every host lens
request in progress and a recall whose moves have begun: a ZOOM_MOVE or ZOOM_SPEED, a FOCUS_MOVE and an IRIS_SET
complete CANCELLED with their axis's position, a recall that a request started completes CANCELLED with its entry still
on the stack, and the count is that of the requests ended; a recall from a press or a cue ends too and is not counted
(R57, R73, R74). Each axis that a request or a claim held is let go: the zoom with a demand of 0, the focus with its
target at its position, within the near limit, and the iris with its target at its command (R57). An absent position
is reported as 0 (the model's choice, log 18), an axis that neither holds keeps its state (log 25), and the requests
complete in the order zoom, focus, iris, recall (log 6). -/
def Obligations.LensStopEndsHostRequests : Prop :=
  (∀ (n : Fin 32) (s : State), isStarted n (.lensStop n) s = true → s.zoom.host = none → s.focus.host = none →
    s.iris.host = none → s.shots.op = none → exec (.lensStop n) s = .next (answered n .ok [0] s))
  ∧ ∀ (n : Fin 32) (r? : Option Recall) (s : State), isStarted n (.lensStop n) s = true →
    s.shots.op = r?.map ShotOp.moving →
    let byRequest : Option (Fin 32) := r?.bind fun r => match r.source with
      | .request k => some k
      | .press => none
      | .cue _ => none
    let slots : List (Fin 32) := (s.zoom.host.map HostZoom.slot).toList ++ (s.focus.host.map HostFocus.slot).toList
      ++ (s.iris.host.map HostIris.slot).toList ++ byRequest.toList
    (∀ k ∈ slots, s.unit.slots[k].state = .running) → slots.Nodup →
    let ended (slot : Option (Fin 32)) (result : List Byte) (u : State) : State := match slot with
      | some k => answered k .cancelled result u
      | none => u
    let entry (r : Recall) : List Byte := byteOf s.shots.depth :: (field16 r.entry.z ++ field16 r.entry.focus
      ++ field16 r.entry.d ++ [byteOf r.entry.iris, if r.entry.tracking then 1 else 0])
    let moving : Prop := r? ≠ none
    ∃ t, exec (.lensStop n) s = .next t
      ∧ t.unit = (answered n .ok [BitVec.ofNat 8 slots.length]
          (ended byRequest ((r?.map entry).getD [])
            (ended (s.iris.host.map HostIris.slot) [byteOf (s.iris.pos.getD 0)]
              (ended (s.focus.host.map HostFocus.slot) (field16 (s.focus.pos.getD 0))
                (ended (s.zoom.host.map HostZoom.slot) (field16 (s.zoom.z.getD 0)) s))))).unit
      ∧ t.shots = { s.shots with op := none }
      ∧ t.zoom.host = none ∧ t.focus.host = none ∧ t.iris.host = none
      ∧ ((s.zoom.host ≠ none ∨ (moving ∧ s.zoom.holder = .recall)) →
          t.zoom.holder = .none ∧ t.zoom.recallClaim = none ∧ t.zoom.demand = 0)
      ∧ (s.zoom.host = none → ¬(moving ∧ s.zoom.holder = .recall) → t.zoom.holder = s.zoom.holder
          ∧ t.zoom.recallClaim = s.zoom.recallClaim ∧ t.zoom.demand = s.zoom.demand)
      ∧ ((s.focus.host ≠ none ∨ (moving ∧ s.focus.holder = .recall)) → t.focus.holder = .none
          ∧ ∀ p, s.focus.pos = some p → t.focus.target = min p s.focus.near)
      ∧ (s.focus.host = none → ¬(moving ∧ s.focus.holder = .recall) → t.focus = s.focus)
      ∧ ((s.iris.host ≠ none ∨ (moving ∧ s.iris.holder = .recall)) → t.iris = { s.iris with
          holder := .none, host := none, recallTarget := none, target := s.iris.command, settle := 0 })
      ∧ (s.iris.host = none → ¬(moving ∧ s.iris.holder = .recall) → t.iris = s.iris)
      ∧ t.focus.pos = s.focus.pos ∧ t.zoom.z = s.zoom.z ∧ t.track = { s.track with lag := t.track.lag }
      ∧ t = { s with
          zoom := t.zoom, focus := t.focus, iris := t.iris, track := t.track, shots := t.shots, unit := t.unit
          events := t.events }

/-- LOAD_LENS_TABLES at an address that is a multiple of 4, with no load in progress, starts the read and stays in
progress; at another address it is BAD_VALUE, and while a load is in progress BUSY (R61; their results are free, log
16, and where both apply BAD_VALUE answers, the model's choice, log 45). A read that meets a bus error completes it
MALFORMED with result 0 and WORK_AREA_FAULT; a block of which check k is the first of the six checks of R62 to fail
completes it TABLE_INVALID with result k and changes no value (R61, R62); a block that passes all six puts its focal
table, its tracking table, its zoom codes, its soft limits and its near limit in force, read from it as section 11.6
lays it out, little-endian, and D, the setting and a focus target within the near limit stay (R62); while Z is
absent the focal length is the new F[0] at once (R63), and the stabiliser is handed none (the model's reading, log
47). SET_TRACKING by its table: BAD_VALUE above 1; NO_TABLE for ON without a table; ON while ON and OFF while OFF
change nothing; OFF while ON clears the setting and the lag inhibit, and a holder of TRACKING becomes NONE; ON while
OFF sets the setting and takes D from the focus position by the inverse of R65 (R68); the result is D (R68), with
BAD_VALUE and NO_TABLE too (the model's reading, log 17). An absent Z or position is taken as 0 (log 18). -/
def Obligations.TrackingRequests : Prop :=
  ((∀ (n : Fin 32) (a : BitVec 32) (s : State), isStarted n (.loadLensTables n a) s = true →
    a.toNat % 4 = 0 → s.track.load = none → exec (.loadLensTables n a) s
      = .next (running n { s with track := { s.track with load := some n } }))
  ∧ (∀ (n : Fin 32) (a : BitVec 32) (s : State), isStarted n (.loadLensTables n a) s = true →
    (a.toNat % 4 ≠ 0 ∨ s.track.load ≠ none) → ∃ t r, exec (.loadLensTables n a) s = .next t ∧ r.length ≤ 240
      ∧ t = { answered n (if a.toNat % 4 = 0 then .busy else .badValue) r s with freeCount := s.freeCount + 1 })
  ∧ ∀ (n : Fin 32) (s : State), s.track.load = some n → s.unit.slots[n].state = .running →
    (exec (.lensTableReadEnd .error) s = .next (answered n .malformed [0] (latch .workAreaFault
      { s with track := { s.track with load := none } })))
    ∧ ∀ bytes : List Byte,
      let half (i : Nat) : Nat := (byteAt bytes i).toNat + 256 * (byteAt bytes (i + 1)).toNat
      let focal (k : Nat) : Nat := half (4 * k) + 65536 * half (4 * k + 2)
      let table (r k : Nat) : Nat := half (68 + 2 * (17 * r + k))
      let check1 : Prop := (∀ k, k < 17 → 1000 ≤ focal k ∧ focal k ≤ 1000000)
        ∧ ∀ k, k < 16 → focal k ≤ focal (k + 1)
      let check2 : Prop := ∀ r k, r < 8 → k < 17 → table r k ≤ table (r + 1) k
      let check3 : Prop := ∀ r k, r < 9 → k < 17 → table r k ≤ 8191
      let check4 : Prop := half 374 ≤ 4095 ∧ half 376 ≤ 4095 ∧ half 374 + 256 ≤ half 376
      let check5 : Prop := half 378 ≤ 4095 ∧ half 380 ≤ 4095 ∧ half 378 < half 380
      let check6 : Prop := half 382 ≤ 8191
      (∀ k : Nat, ((k = 1 ∧ ¬check1) ∨ (k = 2 ∧ check1 ∧ ¬check2) ∨ (k = 3 ∧ check1 ∧ check2 ∧ ¬check3)
          ∨ (k = 4 ∧ check1 ∧ check2 ∧ check3 ∧ ¬check4)
          ∨ (k = 5 ∧ check1 ∧ check2 ∧ check3 ∧ check4 ∧ ¬check5)
          ∨ (k = 6 ∧ check1 ∧ check2 ∧ check3 ∧ check4 ∧ check5 ∧ ¬check6)) →
        exec (.lensTableReadEnd (.data bytes)) s = .next (answered n .tableInvalid [BitVec.ofNat 8 k]
          { s with track := { s.track with load := none } }))
      ∧ (check1 → check2 → check3 → check4 → check5 → check6 →
        ∃ t, exec (.lensTableReadEnd (.data bytes)) s = .next t ∧ t.track.load = none
          ∧ t.track.focal = (List.range 17).map focal
          ∧ t.track.table = some ((List.range 153).map fun i => half (68 + 2 * i)) ∧ t.zoom.wide = half 374
          ∧ t.zoom.tele = half 376 ∧ t.zoom.softMin = half 378 ∧ t.zoom.softMax = half 380
          ∧ t.focus.near = half 382 ∧ t.focus.target ≤ half 382 ∧ t.stab = s.stab ∧ t.zoom.z = s.zoom.z
          ∧ t.track.focalLength = (if s.zoom.z = none then focal 0 else s.track.focalLength)
          ∧ (s.focus.target ≤ half 382 → t.track.d = s.track.d ∧ t.track.on = s.track.on
            ∧ t.focus = { s.focus with near := half 382 }
            ∧ t.unit = (answered n .ok [0] s).unit)
          ∧ t.unit.slots[n].state = .completing ∧ t.clock = s.clock ∧ t.lines = s.lines ∧ t.vf = s.vf
          ∧ t.mem = s.mem)) ∧
  (∀ (n : Fin 32) (enable : Byte) (s : State), isStarted n (.setTracking n enable) s = true →
    (1 < enable.toNat → exec (.setTracking n enable) s = .next (answered n .badValue (field16 s.track.d) s))
    ∧ (enable = 1 → s.track.table = none → exec (.setTracking n enable) s
        = .next (answered n .noTable (field16 s.track.d) s))
    ∧ (enable = 1 → s.track.table ≠ none → s.track.on = true → exec (.setTracking n enable) s
        = .next (answered n .ok (field16 s.track.d) s))
    ∧ (enable = 0 → s.track.on = false → exec (.setTracking n enable) s
        = .next (answered n .ok (field16 s.track.d) s))
    ∧ (enable = 0 → s.track.on = true → ∃ t, exec (.setTracking n enable) s = .next t
        ∧ t.track = { s.track with on := false } ∧ t.zoom.lagInhibit = false
        ∧ t.focus = { s.focus with holder := if s.focus.holder = .tracking then .none else s.focus.holder }
        ∧ t.unit = (answered n .ok (field16 s.track.d) s).unit
        ∧ t = { s with zoom := t.zoom, track := t.track, focus := t.focus, unit := t.unit, events := t.events })
    ∧ (∀ table, enable = 1 → s.track.table = some table → s.track.on = false →
        ∃ t, exec (.setTracking n enable) s = .next t ∧ t.track.on = true ∧ t.track.lastZ = none
          ∧ (let z := s.zoom.z.getD 0
            let fv := s.focus.pos.getD 0
            let k := min (z / 256) 15
            let f := z - 256 * k
            let c (r : Nat) : Nat :=
              (table.getD (17 * r + k) 0 * (256 - f) + table.getD (17 * r + (k + 1)) 0 * f + 128) / 256
            (fv < c 0 → t.track.d = 0) ∧ (c 0 ≤ fv → c 8 < fv → t.track.d = 2048)
            ∧ ∀ r, r < 8 → c 0 ≤ fv → fv ≤ c 8 → c r ≤ fv → fv ≤ c (r + 1) →
              (∀ q, q < r → ¬(c q ≤ fv ∧ fv ≤ c (q + 1))) →
              t.track.d = 256 * r + (if c (r + 1) = c r then 0 else 256 * (fv - c r) / (c (r + 1) - c r)))
          ∧ t.unit = (answered n .ok (field16 t.track.d) s).unit ∧ t.focus = s.focus ∧ t.mem = s.mem))

/-! ### Shot stack (R69 to R75) -/

/-- SHOT_PUSH: BUSY while an operation is in flight or the lens setting is incomplete (Z or the iris position
absent, or the focus neither IDLE nor MOVING), with the depth as it is (the model's reading, log 17); STACK_FULL
with SHOT_STACK latched at 32 entries, or with the banks full under REFUSE; with a bank free the entry is the newest
bank and the request completes OK with the new depth; with the banks full under SPILL its 32 bytes are written to
the next spill entry (R70). SPILL_WRITE_END: the entry counts and the push completes OK with its 32 bytes in memory at
the entry's address, little-endian as section 11.6 lays them out: Z in bytes 0 and 1, the focus position in 2 and 3, D
in 4 and 5, the iris index in 6, the tracking flag, 1 for ON, in 7, and 0 in bytes 8 to 31; or a bus error ends the
write, the push completes MALFORMED with WORK_AREA_FAULT and does not count, and the bytes before the error are
written; no byte outside the 32 changes (R71). Memory holds what the part wrote (the model's choice, log 10), and an
error may fall at any byte (the model's choice, log 53). -/
def Obligations.PushesReachTheStack : Prop :=
  (∀ (n : Fin 32) (s : State), isStarted n (.shotPush n) s = true →
    (s.shots.op ≠ none ∨ s.zoom.z = none ∨ s.iris.pos = none
        ∨ (s.focus.state ≠ .idle ∧ s.focus.state ≠ .moving) → exec (.shotPush n) s
        = .next (answered n .busy [byteOf s.shots.depth] s))
    ∧ ∀ z p i, s.shots.op = none → s.zoom.z = some z → s.iris.pos = some i → s.focus.pos = some p →
      (s.focus.state = .idle ∨ s.focus.state = .moving) →
      let entry : Shot := ⟨z, p, s.track.d, i, s.track.on⟩
      ((32 ≤ s.shots.depth ∨ (8 ≤ s.shots.banks.length ∧ s.shots.refuse = true)) → exec (.shotPush n) s
          = .next (answered n .stackFull [byteOf s.shots.depth] (latch .shotStack s)))
      ∧ (s.shots.depth < 32 → s.shots.banks.length < 8 → exec (.shotPush n) s
          = .next (answered n .ok [byteOf (s.shots.depth + 1 : Nat)]
            { s with shots := { s.shots with banks := s.shots.banks ++ [entry] } }))
      ∧ (s.shots.depth < 32 → 8 ≤ s.shots.banks.length → s.shots.refuse = false → exec (.shotPush n) s
          = .next (running n { s with shots := { s.shots with
              op := some (.push (.request n)),
              transfers := s.shots.transfers
                ++ [⟨s.unit.workBase.toNat + 0x4000 + 32 * s.shots.spill, some entry, true⟩] } })))
  ∧ ∀ (n : Fin 32) (a : Nat) (e : Shot) (w : BusEnd) (s : State), s.shots.op = some (.push (.request n)) →
    s.shots.transfers = [⟨a, some e, true⟩] → s.unit.slots[n].state = .running →
    let bytes : List Byte := [BitVec.ofNat 8 e.z, BitVec.ofNat 8 (e.z / 256),
      BitVec.ofNat 8 e.focus, BitVec.ofNat 8 (e.focus / 256), BitVec.ofNat 8 e.d, BitVec.ofNat 8 (e.d / 256),
      BitVec.ofNat 8 e.iris, if e.tracking then 1 else 0] ++ List.replicate 24 0
    ∃ t, exec (.spillWriteEnd w) s = .next t ∧ t.shots.op = none ∧ t.shots.transfers = []
      ∧ t.shots.banks = s.shots.banks
      ∧ (∀ x : Nat, (x < a ∨ a + 32 ≤ x) → memRead t.mem x = memRead s.mem x)
      ∧ (w = .ok → t.shots.spill = s.shots.spill + 1 ∧ t.events = s.events
          ∧ (∀ i < 32, memRead t.mem (a + i) = some (byteAt bytes i))
          ∧ t.unit = (answered n .ok [byteOf (s.shots.depth + 1 : Nat)] s).unit)
      ∧ (∀ m, w = .error m → ∀ i < 32,
          memRead t.mem (a + i) = if i < min m 31 then some (byteAt bytes i) else memRead s.mem (a + i))
      ∧ (w ≠ .ok → t.shots.spill = s.shots.spill
          ∧ t.unit = (answered n .malformed [byteOf s.shots.depth] s).unit
          ∧ (isMuted .workAreaFault s = false → isLatched .workAreaFault t = true))
      ∧ t = { s with mem := t.mem, shots := t.shots, events := t.events, unit := t.unit }

/-- SHOT_RECALL: BUSY while an operation is in flight, with entry fields of 0; STACK_EMPTY with SHOT_STACK latched;
with spill entries the newest one is read; with banks only, on free axes, the moves to the newest bank begin: the zoom
at 64 to its clamped position, the focus at 16 to its clamped position, the iris (R72). SPILL_READ_END: the moves to
the entry read begin, or the recall completes MALFORMED with WORK_AREA_FAULT, its depth first (R71). The entry is read
little-endian as section 11.6 lays it out: Z from bytes 0 and 1, clamped to 4095, the focus position from 2 and 3,
clamped to 8191, D from 4 and 5, clamped to 2048, the iris index from 6, and the tracking flag from 7, ON where it is
not 0; bytes 8 to 31 are not read, and a clamp sets the recall's adjusted flag (R71). The read of a recall that has
been cancelled ends with its data discarded, and a bus error latches WORK_AREA_FAULT as in any spill transfer (R73,
R76). The adjusted flag of an entry read tells a clamp of its Z, focus position or D, and not a tracking flag of 2 to
255 (the model's choice, log 48). The bytes of the entry that could not be read are free (log 16), and the order of
the three claims is the model's choice (log 37). In either way of starting, a claim that the operator's hold refuses
ends the recall PREEMPTED with its entry on the stack and no conflict recorded, and host requests in progress on the
axes claimed complete PREEMPTED, on axes that tracking or host requests held as on free ones (R41, R51, R52, R56,
R72); the order of these completions is the model's (logs 37, 62), and an absent value is reported as 0 (log 18). -/
def Obligations.RecallsMoveTheLens : Prop :=
  (∀ (n : Fin 32) (s : State), isStarted n (.shotRecall n) s = true →
    (s.shots.op ≠ none → exec (.shotRecall n) s
        = .next (answered n .busy (byteOf s.shots.depth :: List.replicate 8 0) s))
    ∧ (s.shots.op = none → s.shots.spill = 0 → s.shots.banks = [] → exec (.shotRecall n) s
        = .next (answered n .stackEmpty (List.replicate 9 0) (latch .shotStack s)))
    ∧ (s.shots.op = none → 0 < s.shots.spill → exec (.shotRecall n) s
        = .next (running n { s with shots := { s.shots with
            op := some (.reading (.request n)),
            transfers := s.shots.transfers
              ++ [⟨s.unit.workBase.toNat + 0x4000 + 32 * (s.shots.spill - 1), none, true⟩] } }))
    ∧ ∀ e older, s.shots.op = none → s.shots.spill = 0 → s.shots.banks = older ++ [e] →
        (axesFree e s → ∃ t, exec (.shotRecall n) s = .next t ∧ movesBegun (.request n) e false s t
          ∧ t.unit = (running n s).unit)
        ∧ (claimable n s → ∃ t, exec (.shotRecall n) s = .next t ∧ claimsMade n e false s t))
  ∧ (∀ (n : Fin 32) (a : Nat) (s : State), s.shots.op = some (.reading (.request n)) →
    s.shots.transfers = [⟨a, none, true⟩] → s.unit.slots[n].state = .running →
    (∃ t free, exec (.spillReadEnd .error) s = .next t ∧ free.length = 8 ∧ t.shots.op = none
      ∧ t.shots.transfers = [] ∧ t.shots.depth = s.shots.depth
      ∧ (isMuted .workAreaFault s = false → isLatched .workAreaFault t = true)
      ∧ t.unit = (answered n .malformed (byteOf s.shots.depth :: free) s).unit
      ∧ t = { s with shots := t.shots, events := t.events, unit := t.unit, freeCount := t.freeCount })
    ∧ ∀ bytes : List Byte,
        let half (i : Nat) : Nat := (byteAt bytes i).toNat + 256 * (byteAt bytes (i + 1)).toNat
        let entry : Shot := ⟨min (half 0) 4095, min (half 2) 8191, min (half 4) 2048, (byteAt bytes 6).toNat,
          byteAt bytes 7 != 0⟩
        let clamped : Bool := decide (4095 < half 0) || decide (8191 < half 2) || decide (2048 < half 4)
        (axesFree entry s → ∃ t, exec (.spillReadEnd (.data bytes)) s = .next t
          ∧ movesBegun (.request n) entry clamped s t ∧ t.unit = s.unit)
        ∧ (claimable n s → ∃ t, exec (.spillReadEnd (.data bytes)) s = .next t
          ∧ claimsMade n entry clamped { s with shots := { s.shots with op := none, transfers := [] } } t))
  ∧ ∀ (a : Nat) (s : State), s.shots.transfers = [⟨a, none, false⟩] →
    let ended : State := { s with shots := { s.shots with transfers := [] } }
    (∀ bytes, exec (.spillReadEnd (.data bytes)) s = .next ended)
    ∧ exec (.spillReadEnd .error) s = .next (latch .workAreaFault ended)

/-- SHOT_CLEAR empties the stack and reports how many entries it removed, or is BUSY with the stack unchanged
while an operation is in flight; SET_SHOT_POLICY sets the policy, or is refused BAD_VALUE above 1 (R75). The 1 s
of a press that has not pushed makes a push, and marks the press as pushed (R74). SHOT_PRESS_TIMER_EXPIRY is the
occurrence it names (the model's choice, log 1). -/
def Obligations.StackRequestsAndPress : Prop :=
  (∀ (n : Fin 32) (s : State), isStarted n (.shotClear n) s = true →
    (s.shots.op ≠ none → exec (.shotClear n) s = .next (answered n .busy [0] s))
    ∧ (s.shots.op = none → exec (.shotClear n) s = .next (answered n .ok [byteOf s.shots.depth]
        { s with shots := { s.shots with banks := [], spill := 0 } })))
  ∧ (∀ (n : Fin 32) (policy : Byte) (s : State), isStarted n (.setShotPolicy n policy) s = true →
    (policy.toNat ≤ 1 → exec (.setShotPolicy n policy) s = .next (answered n .ok []
        { s with shots := { s.shots with refuse := policy == 1 } }))
    ∧ (1 < policy.toNat → exec (.setShotPolicy n policy) s = .next (answered n .badValue [] s)))
  ∧ ∀ (source : PressSource) (timer : Option Nat) (z p i : Nat) (s : State),
    s.shots.press = some ⟨source, timer, false⟩ → s.shots.op = none → s.zoom.z = some z →
    s.iris.pos = some i → s.focus.pos = some p → s.focus.state = .idle → s.shots.banks.length < 8 →
    s.shots.depth < 32 →
    exec .shotPressTimerExpiry s = .next { s with shots := { s.shots with
      banks := s.shots.banks ++ [⟨z, p, s.track.d, i, s.track.on⟩],
      press := some ⟨source, none, true⟩ } }

/-! ### Stabiliser (Chapter 5) -/

/-- STAB_MODE: a mode above 2 is refused with the state as its result (the model's reading, log 17); the mode in
force changes nothing; HELD enters HELD, and keeps the state where it is HELD already; ON from HELD enters SETTLING,
or stays HELD while the power EMPTY flag is set; OFF from a running state centres both axes and latches STAB_STATE;
ON from OFF enters SETTLING with a count of 0, or HELD while the power EMPTY flag is set; the result is the state
reached (R91, R78). STAB_PARAMS takes the five clamped values and completes OK, or OK_ADJUSTED where one was clamped,
with the five values in force as its results; in ACTIVE and PANNING it also brings each drive above the new stroke
limit to it, with the accumulator rewritten, and in every other state it leaves the axes as they are (R92).
STAB_SETTLED: the 200th scan frame start in SETTLING enters ACTIVE (R79). STAB_SETTLED as a scan frame start of its own
is the model's choice (log 4), and so is the settling count outside SETTLING, 0 in OFF and HELD and 200 after
STAB_SETTLED (log 54). -/
def Obligations.StabiliserModesAndParameters : Prop :=
  (∀ (n : Fin 32) (mode : Byte) (s : State), isStarted n (.stabMode n mode) s = true →
    let entered (m : StabMode) (st : StabState) : State := latch .stabState { s with stab := { s.stab with
      mode := m, state := st, settling := 0, yaw := s.stab.yaw.centred, pitch := s.stab.pitch.centred } }
    (2 < mode.toNat → exec (.stabMode n mode) s
        = .next (answered n .badValue [byteOf s.stab.state.code] s))
    ∧ (∀ m, StabMode.ofCode mode.toNat = some m → s.stab.mode = m → exec (.stabMode n mode) s
        = .next (answered n .ok [byteOf s.stab.state.code] s))
    ∧ (mode = 0 → s.stab.mode ≠ .off → s.stab.state ≠ .calibrating → s.stab.state ≠ .off →
        exec (.stabMode n mode) s = .next (answered n .ok [0] (entered .off .off)))
    ∧ (mode = 2 → s.stab.mode ≠ .held → s.stab.state ≠ .calibrating → exec (.stabMode n mode) s
        = .next (answered n .ok [4] (if s.stab.state = .held
            then { s with stab := { s.stab with mode := .held } } else entered .held .held)))
    ∧ (mode = 1 → s.stab.mode = .held → s.stab.state = .held → exec (.stabMode n mode) s
        = .next (if s.stab.powerEmpty then answered n .ok [4] { s with stab := { s.stab with mode := .on } }
          else answered n .ok [1] (entered .on .settling)))
    ∧ (mode = 1 → s.stab.mode = .off → s.stab.state = .off → exec (.stabMode n mode) s
        = .next (if s.stab.powerEmpty then answered n .ok [4] (entered .on .held)
          else answered n .ok [1] (entered .on .settling))))
  ∧ (∀ (n : Fin 32) (leak panLeak : BitVec 16) (dead : Byte) (pan stroke : BitVec 16) (s : State),
    isStarted n (.stabParams n leak panLeak dead pan stroke) s = true → s.stab.state.computes = false →
    let l := clampNat 1 8191 leak.toNat
    let lp := clampNat 1 8191 panLeak.toNat
    let db := min dead.toNat 15
    let pt := clampNat 50 4095 pan.toNat
    let st := clampNat 100 2000 stroke.toNat
    exec (.stabParams n leak panLeak dead pan stroke) s = .next (answered n
      (if l = leak.toNat ∧ lp = panLeak.toNat ∧ db = dead.toNat ∧ pt = pan.toNat ∧ st = stroke.toNat
        then .ok else .okAdjusted)
      (field16 l ++ field16 lp ++ [byteOf db] ++ field16 pt ++ field16 st)
      { s with stab := { s.stab with
        leak := l, panLeak := lp, deadBand := db, panThreshold := pt, stroke := st } }))
  ∧ (∀ (n : Fin 32) (leak panLeak : BitVec 16) (dead : Byte) (pan stroke : BitVec 16) (s : State),
    isStarted n (.stabParams n leak panLeak dead pan stroke) s = true →
    (s.stab.state = .active ∨ s.stab.state = .panning) →
    let l := clampNat 1 8191 leak.toNat
    let lp := clampNat 1 8191 panLeak.toNat
    let db := min dead.toNat 15
    let pt := clampNat 50 4095 pan.toNat
    let st := clampNat 100 2000 stroke.toNat
    let within (r : StabAxis) : StabAxis := if st < r.drive.natAbs then { r with
        drive := r.drive.sign * st, acc := -(r.drive.sign * ((st * 128000000 / s.stab.focal : Nat) : Int)) } else r
    exec (.stabParams n leak panLeak dead pan stroke) s = .next (answered n
      (if l = leak.toNat ∧ lp = panLeak.toNat ∧ db = dead.toNat ∧ pt = pan.toNat ∧ st = stroke.toNat
        then .ok else .okAdjusted)
      (field16 l ++ field16 lp ++ [byteOf db] ++ field16 pt ++ field16 st)
      { s with stab := { s.stab with
        leak := l, panLeak := lp, deadBand := db, panThreshold := pt, stroke := st
        yaw := within s.stab.yaw, pitch := within s.stab.pitch } }))
  ∧ ∀ s : State, s.stab.state = .settling → s.stab.settling = 199 → ∃ t, exec .stabSettled s = .next t
    ∧ t.stab = { s.stab with
        state := .active, settling := 200,
        cal := s.stab.cal.map fun c => { c with frames := min (c.frames + 1) 4000 } }
    ∧ (isMuted .stabState s = false → isLatched .stabState t = true)
    ∧ t.scan.code = s.scan.requested ∧ t.clock = s.clock ∧ t.lines = s.lines ∧ t.vf = s.vf ∧ t.mem = s.mem

/-- STAB_CALIBRATE enters CALIBRATING from every state with both axes centred, STAB_STATE latched and an empty record.
In it each scan frame start counts a frame, up to 4,000, and from the first such start on each gyro sample adds its
code to the axis's sum and takes it into the minimum and the maximum; before it a sample is not collected.
CALIBRATION_END, the pitch sample of the 4,000th frame: with both spreads at 40 or less each bias becomes the rounded
mean code times 256 and the request completes OK; otherwise the biases stay and it completes MOTION; either way the
spreads and the biases are reported, the record is cleared and the derived state is entered (R89). CALIBRATION_END as
a conversion of its own is the model's choice (log 4), and so is the settling count of 0 in CALIBRATING (log 54). -/
def Obligations.CalibrationMeasuresTheBias : Prop :=
  (∀ (n : Fin 32) (s : State), isStarted n (.stabCalibrate n) s = true → exec (.stabCalibrate n) s
    = .next (latch .stabState { running n s with stab := { s.stab with
        state := .calibrating, settling := 0, yaw := s.stab.yaw.centred, pitch := s.stab.pitch.centred,
        cal := some ⟨n, 0, ⟨0, 4095, 0⟩, ⟨0, 4095, 0⟩⟩ } }))
  ∧ (∀ (c : Calibration) (s : State), s.stab.state = .calibrating → s.stab.cal = some c → c.frames ≤ 4000 →
    ∃ t, exec .scanFrameStart s = .next t ∧ t.stab.state = .calibrating
      ∧ t.stab.cal = some { c with frames := min (c.frames + 1) 4000 }
      ∧ t.stab.yaw = s.stab.yaw ∧ t.stab.pitch = s.stab.pitch)
  ∧ (∀ (yaw : Bool) (code : BitVec 12) (c : Calibration) (s : State), s.stab.state = .calibrating →
    s.stab.cal = some c → (yaw = true ∨ c.frames < 4000) →
    let channel : Channel := if yaw then .yawGyro else .pitchGyro
    s.scan.grants.contains channel = true →
    let more (x : Collected) : Collected := ⟨x.sum + code.toNat, min x.low code.toNat, max x.high code.toNat⟩
    let kept (x : StabAxis) : StabAxis := { x with last := some code.toNat }
    exec (.conversionComplete channel code) s = .next { s with
      scan := { s.scan with last := put s.scan.last (if yaw then 0 else 1) (some code.toNat) }
      stab := { s.stab with
        yaw := if yaw then kept s.stab.yaw else s.stab.yaw
        pitch := if yaw then s.stab.pitch else kept s.stab.pitch
        cal := if c.frames = 0 then some c
          else some (if yaw then { c with yaw := more c.yaw } else { c with pitch := more c.pitch }) } })
  ∧ ∀ (code : BitVec 12) (c : Calibration) (s : State), s.stab.state = .calibrating → s.stab.cal = some c →
    c.frames = 4000 → s.scan.grants.contains .pitchGyro = true → s.unit.slots[c.slot].state = .running →
    let pitch : Collected :=
      ⟨c.pitch.sum + code.toNat, min c.pitch.low code.toNat, max c.pitch.high code.toNat⟩
    let still : Bool := decide (c.yaw.high - c.yaw.low ≤ 40) && decide (pitch.high - pitch.low ≤ 40)
    ∃ t, exec (.calibrationEnd code) s = .next t
      ∧ t.stab.cal = none ∧ t.stab.state = s.stab.derived ∧ t.stab.mode = s.stab.mode
      ∧ t.stab.yaw.bias = (if still then (((256 * c.yaw.sum + 2000) / 4000 : Nat) : Int)
          else s.stab.yaw.bias)
      ∧ t.stab.pitch.bias = (if still then (((256 * pitch.sum + 2000) / 4000 : Nat) : Int)
          else s.stab.pitch.bias)
      ∧ t.stab.pitch.last = some code.toNat ∧ t.stab.yaw.drive = 0 ∧ t.stab.pitch.drive = 0
      ∧ (isMuted .stabState s = false → isLatched .stabState t = true)
      ∧ t.unit = (answered c.slot (if still then .ok else .motion)
          (field16 (c.yaw.high - c.yaw.low : Nat) ++ field16 (pitch.high - pitch.low : Nat)
            ++ field32 t.stab.yaw.bias ++ field32 t.stab.pitch.bias) s).unit
      ∧ t.scan.last[1] = some code.toNat ∧ t.clock = s.clock ∧ t.lines = s.lines ∧ t.vf = s.vf ∧ t.mem = s.mem

/-- A gyro sample of an axis in ACTIVE or PANNING: the accumulator takes the leak and the rate, the drive is −c with c
= round(f × A / 128,000,000) where that is within the stroke limit, and stands at the stroke limit otherwise; the
state is PANNING while either axis is in pan (R82 to R86). The pan detector counts the samples at or above the pan
threshold, the saturated ones and, in pan, the quiet ones (R86; that the first two hold at 40 and 200 in pan is the
model's reading, log 42). PAN_ENTRY: a rate count of 40, a saturated count of 200 or a gyro code at the end of its
range puts its axis into pan, and the state is PANNING, with STAB_STATE latched from ACTIVE. PAN_EXIT: the 200th quiet
sample takes the axis out of pan with its counts at 0, and with the other axis out of pan the state is ACTIVE again
(R86). Either computes its sample in the same way. In SETTLING a sample of either axis only moves its bias and is
kept, and in OFF and HELD it is only kept (R78, R82). PAN_ENTRY and PAN_EXIT as samples of their own are the model's
choice (log 4). -/
def Obligations.PanBeginsAndEnds : Prop :=
  (∀ (a : Axis) (code : BitVec 12) (s : State), s.scan.grants.contains (gyroChannel a) = true →
    (s.stab.state = .active ∨ s.stab.state = .panning) →
    ∃ t, exec (.conversionComplete (gyroChannel a) code) s = .next t ∧ sampleComputed a code s t
      ∧ panDetected a code s t
      ∧ t.stab.state = (if t.stab.yaw.inPan = true ∨ t.stab.pitch.inPan = true then .panning else .active)
      ∧ (s.stab.state ≠ t.stab.state → isMuted .stabState s = false → isLatched .stabState t = true))
  ∧ (∀ (a : Axis) (code : BitVec 12) (s : State), s.scan.grants.contains (gyroChannel a) = true →
    (s.stab.state = .active ∨ s.stab.state = .panning) → (s.stab.axis a).inPan = false →
    (code = 0 ∨ code = 4095
      ∨ (39 ≤ (s.stab.axis a).rateCount ∧ s.stab.panThreshold ≤ (sampleRate a code s).natAbs)
      ∨ (199 ≤ (s.stab.axis a).satCount ∧ s.stab.stroke < (sampleShift a code s).natAbs)) →
    ∃ t, exec (.panEntry a code) s = .next t ∧ sampleComputed a code s t
      ∧ (t.stab.axis a).inPan = true ∧ (t.stab.axis a).quietCount = 0 ∧ t.stab.state = .panning
      ∧ (s.stab.state = .active → isMuted .stabState s = false → isLatched .stabState t = true))
  ∧ (∀ (a b : Axis) (code : BitVec 12) (s : State), s.scan.grants.contains (gyroChannel a) = true →
    s.stab.state = .panning → (s.stab.axis a).inPan = true → (s.stab.axis a).quietCount = 199 →
    a ≠ b → (s.stab.axis b).inPan = false → code ≠ 0 → code ≠ 4095 →
    (sampleRate a code s).natAbs < 100 →
    ∃ t, exec (.panExit a code) s = .next t ∧ sampleComputed a code s t
      ∧ (t.stab.axis a).inPan = false ∧ (t.stab.axis a).rateCount = 0 ∧ (t.stab.axis a).satCount = 0
      ∧ (t.stab.axis a).quietCount = 0 ∧ t.stab.state = .active
      ∧ (isMuted .stabState s = false → isLatched .stabState t = true))
  ∧ (∀ (code : BitVec 12) (s : State), s.scan.grants.contains .yawGyro = true →
    let kept (bias : Int) : State := { s with
      scan := { s.scan with last := put s.scan.last 0 (some code.toNat) },
      stab := { s.stab with yaw := { s.stab.yaw with last := some code.toNat, bias := bias } } }
    ((s.stab.state = .off ∨ s.stab.state = .held) →
      exec (.conversionComplete .yawGyro code) s = .next (kept s.stab.yaw.bias))
    ∧ (s.stab.state = .settling → exec (.conversionComplete .yawGyro code) s
        = .next (kept (s.stab.yaw.bias + (256 * (code.toNat : Int) - s.stab.yaw.bias).tdiv 1024))))
  ∧ ∀ (code : BitVec 12) (s : State), s.scan.grants.contains .pitchGyro = true →
    let kept (bias : Int) : State := { s with
      scan := { s.scan with last := put s.scan.last 1 (some code.toNat) },
      stab := { s.stab with pitch := { s.stab.pitch with last := some code.toNat, bias := bias } } }
    ((s.stab.state = .off ∨ s.stab.state = .held) →
      exec (.conversionComplete .pitchGyro code) s = .next (kept s.stab.pitch.bias))
    ∧ (s.stab.state = .settling → exec (.conversionComplete .pitchGyro code) s
        = .next (kept (s.stab.pitch.bias + (256 * (code.toNat : Int) - s.stab.pitch.bias).tdiv 1024)))

/-! ### Media slots (Chapter 6) -/

/-- MOUNT_AFTER_RESET_START starts the HEADER_READ of a MOUNTING card with a free link. HEADER_READ_END with a valid
header takes its four values and derives PROTECTED, FULL under 64 free blocks, or READY, hands over the last clip
number, and latches the slot's class; an invalid header or an error leads to FAULT with MEDIA_FAULT latched and the
values kept (R96, R97, R107, R110). CARD_LINK_TIMEOUT ends the operation in flight as its ERROR does (R94). A detect
line's edge, at the expiry of its debounce timer: a rising one mounts a card into an EMPTY slot, with a HEADER_READ of
1.5 s as soon as the link is free (R96); a falling one removes the card in every state but EMPTY, with its counts,
queue and operation, and a FORMAT_CARD in progress completes NO_MEDIA with the results of the empty slot (R98; the
model's reading, log 17). Outside DRAINING the entry that the removed card returns fails on it: an extent still queued
on the other card stays in progress (the model's reading, log 35), and any other is written there, or LOST, and its
request completes (R123, R124). A clip of which the card is no part is DEGRADED by it, with entries returned or
without (the model's reading of R122, log 21), and goes on; so does a MIRROR clip that keeps the other target (R123).
A target card that leaves its clip alone is a loss as in R122 and R123: in RELAY the clip moves onto the other card or
breaks, in MIRROR it breaks, and in DRAINING with nothing returned only the target is given up. An index pending is
answered INDEX_LOST into the clip's flag: with the other answer owed the clip goes on in INDEXING, and otherwise it is
CLOSED with its end label, the state goes to the idle state and the stop request completes OK (R98, R125). A protect
line's edge is a check point: an idle READY or FULL card becomes PROTECTED at the asserted level, and a PROTECTED one
FULL or READY at the other; any other card stays as it is (R99). The expiry is the occurrence it names (the model's
choice, log 1). -/
def Obligations.MountsReadTheHeader : Prop :=
  (∀ (c : CardSlot) (s : State), (card c s).state = .mounting → (card c s).op = none →
    exec (.mountAfterResetStart c) s
      = .next (setCard c { card c s with op := some ⟨.headerRead, 40500000, 0, none, true⟩ } s))
  ∧ (∀ (c : CardSlot) (left : Nat) (s : State), (card c s).state = .mounting →
    (card c s).op = some ⟨.headerRead, left, 0, none, true⟩ →
    (exec (.cardLinkTimeout c) s = exec (.headerReadEnd c .error) s)
    ∧ (∀ capacity committed index last : Nat, (1 ≤ capacity ∧ capacity ≤ 16777215 ∧ committed ≤ capacity
          ∧ last ≤ 9999) →
        ∃ t, exec (.headerReadEnd c (.header capacity committed index last)) s = .next t
          ∧ card c t = { card c s with
              state := if isProtected c s then .protect else if capacity - committed < 64 then .full else .ready,
              capacity := capacity, committed := committed, reserved := 0, indexCount := index,
              lastClip := last, op := none }
          ∧ t.recorder = { s.recorder with
              nextClip := if last = 0 then s.recorder.nextClip
                else max s.recorder.nextClip (if last ≥ 9999 then 1 else last + 1) }
          ∧ (isMuted (cardClass c) s = false → isLatched (cardClass c) t = true)
          ∧ card (otherCard c) t = card (otherCard c) s ∧ t.unit = s.unit ∧ t.clock = s.clock
          ∧ t.lines = s.lines ∧ t.vf = s.vf ∧ t.mem = s.mem)
    ∧ ∀ answer, (answer = .error ∨ ∃ capacity committed index last, answer = .header capacity committed index last
          ∧ (capacity = 0 ∨ 16777215 < capacity ∨ capacity < committed ∨ 9999 < last)) →
        ∃ t, exec (.headerReadEnd c answer) s = .next t
          ∧ card c t = { card c s with state := .fault, op := none }
          ∧ (isMuted .mediaFault s = false → isLatched .mediaFault t = true)
          ∧ (isMuted (cardClass c) s = false → isLatched (cardClass c) t = true)
          ∧ t = { setCard c (card c t) s with events := t.events })
  ∧ ∀ (c : CardSlot) (s : State),
    let d := otherCard c
    let returned (e : Extent) (s t : State) : Prop := returnSettled c e s t
      ∧ ∀ n x, s.recorder.essences = [⟨n, 1, [x]⟩] → e.slot = n → e.place = 0 → x.side d = .queued →
        t.recorder.essences = [⟨n, 1, [x.withSide c .failed]⟩] ∧ t.unit = s.unit
    let detect : Fin 7 := if c = .a then 0 else 1
    let guard : Fin 7 := if c = .a then 2 else 3
    let edge (i : Fin 7) : Vector Line 7 := put s.lines i { s.lines[i] with
      debounced := s.lines[i].raw, timer := none
      edge := if (if s.lines[i].raw then s.lines[i].riseEnable else s.lines[i].fallEnable) = true
        then some ⟨s.lines[i].raw, stampNow s⟩ else s.lines[i].edge }
    (s.lines[detect].timer ≠ none → s.lines[detect].raw = true → (card c s).state = .empty →
      ∃ t, exec (.debounceExpiry detect) s = .next t
        ∧ card c t = { card c s with
            state := .mounting,
            op := if (card c s).op = none then some ⟨.headerRead, 40500000, 0, none, true⟩ else (card c s).op }
        ∧ (isMuted (cardClass c) s = false → isLatched (cardClass c) t = true)
        ∧ t = { setCard c (card c t) s with lines := edge detect, events := t.events })
    ∧ (s.lines[detect].timer ≠ none → s.lines[detect].raw = true → (card c s).state ≠ .empty →
      ∃ t, exec (.debounceExpiry detect) s = .next t
        ∧ t = { s with lines := edge detect, events := t.events })
    ∧ (s.lines[detect].timer ≠ none → s.lines[detect].raw = false → (card c s).state ≠ .empty →
      ∃ t, exec (.debounceExpiry detect) s = .next t ∧ t.lines = edge detect ∧ card c t = Card.powerOn
        ∧ (isMuted (cardClass c) s = false → isLatched (cardClass c) t = true)
        ∧ (openClip s = none → (card c s).queue = [] → (card c s).index = none → (card c s).format = none →
            t = { setCard c Card.powerOn s with lines := edge detect, events := t.events })
        ∧ (∀ n, (card c s).format = some n → openClip s = none → (card c s).queue = [] → (card c s).index = none →
            s.unit.slots[n].state = .running →
            t.unit = (answered n .noMedia (List.replicate 9 0) s).unit)
        ∧ ((card c s).index = none → (card c s).format = none → s.recorder.phase ≠ some .draining →
          ((openClip s = none ∨ isTarget c s = false) →
            t.recorder.state = s.recorder.state ∧ card d t = card d s
            ∧ (∀ k, openClip s = some k → openClip t = some (Clip.degradedBy c k)
              ∧ isTarget c t = false ∧ isTarget d t = isTarget d s)
            ∧ ∀ e, (card c s).queue = [e] → returned e.extent s t)
          ∧ (∀ k, openClip s = some k → isTarget c s = true → s.recorder.mirror = true → isTarget d s = true →
            t.recorder.state = s.recorder.state ∧ card d t = card d s
            ∧ openClip t = some (Clip.degradedBy c k) ∧ isTarget c t = false ∧ isTarget d t = true
            ∧ ∀ e, (card c s).queue = [e] → returned e.extent s t))
        ∧ (∀ e k, (card c s).queue = [e] → (card c s).index = none → (card c s).format = none →
            openClip s = some k → isTarget c s = true → isTarget d s = false →
            s.recorder.state = .recording → s.recorder.phase = none →
          (s.recorder.mirror = false → lostByRelay c e.extent k s t)
          ∧ (s.recorder.mirror = true → clipBroken k s t
            ∧ (s.recorder.stopReq = none → s.recorder.pendingStart = none → returnSettled c e.extent s t)))
        ∧ (∀ k, (card c s).queue = [] → (card c s).index = none → (card c s).format = none →
            openClip s = some k → isTarget c s = true → isTarget d s = false → s.recorder.phase = some .draining →
            clipQueued k.serial s = true →
          t.recorder = (setTarget c false s).recorder ∧ t.unit = s.unit ∧ card d t = card d s)
        ∧ (∀ k r, (card c s).queue = [] → (card c s).index = some r → (card c s).format = none →
            openClip s = some k → isTarget c s = true → s.recorder.phase = some .indexing →
          let lost (k : Clip) : Clip := { k with
            indexLostA := k.indexLostA || c == .a, indexLostB := k.indexLostB || c == .b }
          ((if c = .a then s.recorder.awaitB else s.recorder.awaitA) = true →
            openClip t = some (lost
              (if s.recorder.mirror = true ∧ isTarget d s = true then Clip.degradedBy c k else k))
            ∧ t.recorder.awaitA = (s.recorder.awaitA && c != .a)
            ∧ t.recorder.awaitB = (s.recorder.awaitB && c != .b)
            ∧ t.recorder.state = s.recorder.state ∧ t.recorder.phase = some .indexing ∧ t.unit = s.unit
            ∧ card d t = card d s)
          ∧ ((if c = .a then s.recorder.awaitB else s.recorder.awaitA) = false → isTarget d s = false →
              s.recorder.state = .stopping → s.recorder.restart = false → s.recorder.after = [] →
            let last := addFrames s.clock.rate s.clock.drop k.start ((k.frames : Int) - 1)
            openClip t = none ∧ { lost k with state := .closed, endLabel := some last } ∈ t.recorder.clips
            ∧ t.recorder.state = (if 0 < s.recorder.limit ∧ s.clock.mode = .freeRun then .prerec else .standby)
            ∧ t.recorder.phase = none ∧ t.recorder.targetA = false ∧ t.recorder.targetB = false
            ∧ (isMuted .clipClosed s = false → isLatched .clipClosed t = true)
            ∧ (isMuted .recState s = false → isLatched .recState t = true)
            ∧ (s.recorder.stopReq = none → t.unit = s.unit)
            ∧ ∀ m, s.recorder.stopReq = some m → s.unit.slots[m].state = .running → t.recorder.stopReq = none
              ∧ t.unit = (answered m .ok (field16 k.number ++ field24 k.frames ++ labelBytes last
                  ++ [BitVec.ofNat 8 ((k.reason.map StopReason.code).getD 0)]) s).unit))
        ∧ t.clock = s.clock ∧ t.scan = s.scan ∧ t.power = s.power ∧ t.vf = s.vf ∧ t.mem = s.mem)
    ∧ (s.lines[guard].timer ≠ none →
      ∃ t, exec (.debounceExpiry guard) s = .next t
        ∧ (let free := (card c s).capacity - (card c s).committed - (card c s).reserved
          card c t = { card c s with state :=
            if ((card c s).state = .ready ∨ (card c s).state = .full) ∧ s.lines[guard].raw = true
                ∧ (card c s).queue = [] ∧ (card c s).op = none ∧ (card c s).index = none then .protect
            else if (card c s).state = .protect ∧ s.lines[guard].raw = false then
              (if free < 64 then .full else .ready)
            else (card c s).state })
        ∧ ((card c t).state ≠ (card c s).state → isMuted (cardClass c) s = false →
            isLatched (cardClass c) t = true)
        ∧ t = { setCard c (card c t) s with lines := edge guard, events := t.events })

/-- FORMAT_CARD of a slot above 1 is BAD_VALUE (its result is free, log 16); of an EMPTY or PROTECTED card, or of a
FAULT card whose protect level is asserted, it completes NO_MEDIA, and of an ACTIVE, MOUNTING or FORMATTING card BUSY;
of any other READY, FULL or FAULT card it is BUSY where the card is busy (an entry queued, an operation in flight, or
an index pending) or holds a span of an open clip, and otherwise it starts the FORMAT of 10 s. FORMAT_END
done clears the counts, keeps the capacity, derives the state, sets ERASED on the clips with a span there and
completes OK with the state, the capacity and the free blocks; with an error it leads to FAULT and MEDIA_FAULT
(R106). A refusal reports the state, the capacity and the free blocks as they are (the model's reading, log 17). -/
def Obligations.FormatErasesTheCard : Prop :=
  (∀ (n : Fin 32) (code : Byte) (s : State), isStarted n (.formatCard n code) s = true → 1 < code.toNat →
    ∃ t r, exec (.formatCard n code) s = .next t ∧ r.length ≤ 240
      ∧ t = { answered n .badValue r s with freeCount := s.freeCount + 1 })
  ∧ (∀ (n : Fin 32) (code : Byte) (c : CardSlot) (s : State), isStarted n (.formatCard n code) s = true →
    (code = 0 ∧ c = .a ∨ code = 1 ∧ c = .b) →
    let now : List Byte := byteOf (card c s).state.code :: (field32 (card c s).capacity ++ field32 (card c s).free)
    let k := card c s
    let busy : Bool := !k.queue.isEmpty || k.op.isSome || k.index.isSome
    let spanned : Bool := (openClip s).any fun x => x.spans.any fun span => span.card == c
    let opened : Prop := k.state = .ready ∨ k.state = .full ∨ (k.state = .fault ∧ isProtected c s = false)
    (((card c s).state = .empty ∨ (card c s).state = .protect ∨ (k.state = .fault ∧ isProtected c s = true)) →
      exec (.formatCard n code) s = .next (answered n .noMedia now s))
    ∧ (((card c s).state = .active ∨ (card c s).state = .mounting ∨ (card c s).state = .formatting) →
      exec (.formatCard n code) s = .next (answered n .busy now s))
    ∧ (opened → (busy || spanned) = true → exec (.formatCard n code) s = .next (answered n .busy now s))
    ∧ (opened → busy = false → spanned = false →
      ∃ t, exec (.formatCard n code) s = .next t
        ∧ card c t = { card c s with
            state := .formatting, op := some ⟨.format, 270000000, 0, none, true⟩, format := some n }
        ∧ (isMuted (cardClass c) s = false → isLatched (cardClass c) t = true)
        ∧ t = { setCard c (card c t) (running n s) with events := t.events }))
  ∧ ∀ (n : Fin 32) (c : CardSlot) (left : Nat) (s : State), (card c s).state = .formatting →
    (card c s).op = some ⟨.format, left, 0, none, true⟩ → (card c s).format = some n →
    s.unit.slots[n].state = .running →
    (∃ t, exec (.formatEnd c .done) s = .next t
      ∧ (let st : CardState :=
          if isProtected c s then .protect else if (card c s).capacity < 64 then .full else .ready
        card c t = { card c s with
          state := st, committed := 0, reserved := 0, indexCount := 0, lastClip := 0, op := none, format := none }
        ∧ t.unit = (answered n .ok (byteOf st.code
            :: (field32 (card c s).capacity ++ field32 (card c s).capacity)) s).unit)
      ∧ t.recorder.clips = s.recorder.clips.map
          (fun k => if k.spansOn c then { k with erased := true } else k)
      ∧ (isMuted (cardClass c) s = false → isLatched (cardClass c) t = true)
      ∧ card (otherCard c) t = card (otherCard c) s ∧ t.clock = s.clock ∧ t.lines = s.lines ∧ t.vf = s.vf
      ∧ t.mem = s.mem)
    ∧ ∃ t, exec (.formatEnd c .error) s = .next t
      ∧ card c t = { card c s with state := .fault, op := none, format := none }
      ∧ t.unit = (answered n .mediaFault (byteOf CardState.fault.code
          :: (field32 (card c s).capacity ++ field32 (card c s).free)) s).unit
      ∧ (isMuted .mediaFault s = false → isLatched .mediaFault t = true)
      ∧ t.recorder = s.recorder ∧ t.mem = s.mem

/-- BLOCK_WRITE_END done, and EXTENT_SOURCE_ERROR, outside STOPPING: the head entry leaves the queue, its blocks are
committed, and the next entry is served; a source error latches WORK_AREA_FAULT (R102, R94). BLOCK_WRITE_END with
ERROR, or CARD_LINK_TIMEOUT, with no clip OPEN or CLOSING and no index pending: FAULT, with MEDIA_FAULT and the card's
class latched, the queue emptied and the reserved blocks released (R103, R94); the blocks sent by then are free (log
22). An index request: an ACTIVE, READY or FULL card takes the record, and with a free link starts an INDEX_WRITE with
the updated header; any other answers INDEX_LOST at once (R104, R105). A span that no extent has reached is left out
(the model's choice, log 51). INDEX_WRITE_END done, the other answer owed: the index count goes up, held at 65,535
(the model's choice, log 49), and the answer is in (R105, R125). INDEX_WRITE_END with ERROR, or its CARD_LINK_TIMEOUT:
FAULT as above, and INDEX_LOST into the clip's flag (R103, R105); a MIRROR clip that keeps the other target is
DEGRADED, and so is one of which the card is no target (the model's reading, log 21); with the other answer owed
INDEXING goes on, else the clip closes (R125). A FORMAT that ends with ERROR or by CARD_LINK_TIMEOUT: FAULT as above,
and FORMAT_CARD completes MEDIA_FAULT (R106, R94). In RELAY the ERROR of a target card is its loss: the clip is
relayed onto a READY card with fewer than 8 spans with the extent returned, or without room the extent is LOST, the
clip DEGRADED and a MEDIA_FULL stop pending; else the clip is BROKEN and the state HALTED, the lists settled, the stop
request MEDIA_FAULT, an absent end label and reason as 0 (log 18), and the extent LOST unless WRITTEN on the other
card (R101, R122, R126, R124). The last index answer closes the clip: CLOSED with its end label, CLIP_CLOSED latched,
the card deselected, the stop request OK, and the state idle, or with the restart flag and a READY card ARMING (R125).
-/
def Obligations.CardWritesEnd : Prop :=
  (∀ (c : CardSlot) (left unsent : Nat) (e : QueueEntry) (rest : List QueueEntry) (cmd : Instr) (s : State),
    (cmd = .blockWriteEnd c .done ∨ cmd = .extentSourceError c) → (card c s).state = .active →
    (card c s).op = some ⟨.blockWrite, left, unsent, none, true⟩ → (card c s).queue = e :: rest →
    (card c s).index = none → s.recorder.phase = none →
    ∃ t, exec cmd s = .next t
      ∧ card c t = { card c s with
          queue := rest, committed := (card c s).committed + e.blocks,
          reserved := (card c s).reserved - e.blocks,
          op := rest.head?.map fun x => ⟨.blockWrite, 6750000, x.blocks - 1, none, true⟩ }
      ∧ (cmd = .extentSourceError c → isMuted .workAreaFault s = false → isLatched .workAreaFault t = true)
      ∧ card (otherCard c) t = card (otherCard c) s ∧ t.recorder.state = s.recorder.state ∧ t.clock = s.clock
      ∧ t.lines = s.lines ∧ t.power = s.power ∧ t.vf = s.vf ∧ t.mem = s.mem)
  ∧ (∀ (c : CardSlot) (left unsent : Nat) (cmd : Instr) (s : State),
    (cmd = .blockWriteEnd c .error ∨ cmd = .cardLinkTimeout c) → (card c s).state ≠ .fault →
    (card c s).op = some ⟨.blockWrite, left, unsent, none, true⟩ → (card c s).index = none → openClip s = none →
    ∃ t, exec cmd s = .next t
      ∧ card c t = { card c s with state := .fault, op := none, queue := [], reserved := 0 }
      ∧ (isMuted .mediaFault s = false → isLatched .mediaFault t = true)
      ∧ (isMuted (cardClass c) s = false → isLatched (cardClass c) t = true)
      ∧ card (otherCard c) t = card (otherCard c) s ∧ t.clock = s.clock ∧ t.lines = s.lines ∧ t.vf = s.vf
      ∧ t.mem = s.mem)
  ∧ (∀ (c : CardSlot) (k : Clip) (s : State),
    let x := card c s
    let record : IndexRecord := {
      number := k.number, start := k.start
      endLabel := addFrames s.clock.rate s.clock.drop k.start ((k.frames : Int) - 1), frames := k.frames
      spans := k.spans.filter fun span => span.card == c && span.first.isSome, preRecord := k.preRecord
      degraded := k.degraded, marksFull := k.marksFull, marks := k.marks }
    ((x.state = .active ∨ x.state = .ready ∨ x.state = .full) →
      (x.op = none → x.queue = [] → requestIndex c true k s = setCard c { x with
        index := some record
        op := some ⟨.indexWrite, 6750000, 0,
          some ⟨x.committed, min (x.indexCount + 1) 65535, k.number⟩, true⟩ } s)
      ∧ (x.op ≠ none → requestIndex c true k s = setCard c { x with index := some record } s))
    ∧ ((x.state = .empty ∨ x.state = .mounting ∨ x.state = .protect ∨ x.state = .formatting ∨ x.state = .fault) →
      openClip s = some k →
      let t := requestIndex c true k s
      openClip t = some { k with
          indexLostA := k.indexLostA || c == .a, indexLostB := k.indexLostB || c == .b }
      ∧ t = { s with recorder := { s.recorder with
          clips := t.recorder.clips
          awaitA := s.recorder.awaitA && c != .a, awaitB := s.recorder.awaitB && c != .b } }))
  ∧ (∀ (c : CardSlot) (left : Nat) (h : Option CardHeader) (r : IndexRecord) (s : State),
    (card c s).state = .active → (card c s).op = some ⟨.indexWrite, left, 0, h, true⟩ → (card c s).queue = [] →
    (card c s).index = some r → (if c = .a then s.recorder.awaitB else s.recorder.awaitA) = true →
    exec (.indexWriteEnd c .done) s = .next { setCard c { card c s with
        op := none, index := none, indexCount := min ((card c s).indexCount + 1) 65535, lastClip := r.number } s with
      recorder := { s.recorder with
        awaitA := s.recorder.awaitA && c != .a, awaitB := s.recorder.awaitB && c != .b } })
  ∧ (∀ (c : CardSlot) (left unsent : Nat) (e : QueueEntry) (s : State),
    (card c s).state = .active → (card c s).op = some ⟨.blockWrite, left, unsent, none, true⟩ →
    (card c s).queue = [e] → (card c s).index = none → s.recorder.state = .recording → s.recorder.phase = none →
    s.recorder.mirror = false → isTarget c s = true → isTarget (otherCard c) s = false →
    ∀ (k : Clip) (cmd : Instr), openClip s = some k → (cmd = .blockWriteEnd c .error ∨ cmd = .cardLinkTimeout c) →
    ∃ t, exec cmd s = .next t
      ∧ card c t = { card c s with state := .fault, op := none, queue := [], reserved := 0 }
      ∧ (isMuted .mediaFault s = false → isLatched .mediaFault t = true)
      ∧ lostByRelay c e.extent k s t
      ∧ t.clock = s.clock ∧ t.lines = s.lines ∧ t.vf = s.vf ∧ t.mem = s.mem)
  ∧ (∀ (c : CardSlot) (left : Nat) (h : Option CardHeader) (r : IndexRecord) (k : Clip) (cmd : Instr) (s : State),
    let d := otherCard c
    let kept : Clip :=
      if isTarget c s = false ∨ (s.recorder.mirror = true ∧ isTarget d s = true) then Clip.degradedBy c k else k
    let lost : Clip := { kept with
      indexLostA := k.indexLostA || c == .a, indexLostB := k.indexLostB || c == .b }
    let owed : Bool := if c = .a then s.recorder.awaitB else s.recorder.awaitA
    let last := addFrames s.clock.rate s.clock.drop k.start ((k.frames : Int) - 1)
    (cmd = .indexWriteEnd c .error ∨ cmd = .cardLinkTimeout c) → (card c s).state ≠ .fault →
    (card c s).op = some ⟨.indexWrite, left, 0, h, true⟩ → (card c s).queue = [] → (card c s).index = some r →
    s.recorder.state = .stopping → s.recorder.phase = some .indexing → openClip s = some k →
    ∃ t, exec cmd s = .next t
      ∧ card c t = { card c s with state := .fault, op := none, reserved := 0, index := none }
      ∧ (isMuted .mediaFault s = false → isLatched .mediaFault t = true)
      ∧ (isMuted (cardClass c) s = false → isLatched (cardClass c) t = true)
      ∧ (owed = true → openClip t = some lost ∧ t.recorder.state = .stopping
          ∧ t.recorder.phase = some .indexing ∧ card d t = card d s
          ∧ t.recorder.awaitA = (s.recorder.awaitA && c != .a)
          ∧ t.recorder.awaitB = (s.recorder.awaitB && c != .b)
          ∧ t.recorder.stopReq = s.recorder.stopReq ∧ t.unit = s.unit)
      ∧ (owed = false → openClip t = none ∧ t.recorder.phase = none
          ∧ { lost with state := .closed, endLabel := some last } ∈ t.recorder.clips
          ∧ t.recorder.targetA = false ∧ t.recorder.targetB = false
          ∧ (isTarget d s = false → card d t = card d s)
          ∧ (isMuted .clipClosed s = false → isLatched .clipClosed t = true)
          ∧ (isMuted .recState s = false → isLatched .recState t = true))
      ∧ (owed = false → s.recorder.restart = false → s.recorder.after = [] →
          t.recorder.state = (if 0 < s.recorder.limit ∧ s.clock.mode = .freeRun then .prerec else .standby)
          ∧ t.recorder.held = [] ∧ t.recorder.pendingStart = s.recorder.pendingStart
          ∧ (s.recorder.stopReq = none → t.unit = s.unit)
          ∧ ∀ m, s.recorder.stopReq = some m → s.unit.slots[m].state = .running → t.recorder.stopReq = none
            ∧ t.unit = (answered m .ok (field16 k.number ++ field24 k.frames ++ labelBytes last
                ++ [BitVec.ofNat 8 ((k.reason.map StopReason.code).getD 0)]) s).unit)
      ∧ (owed = false → s.recorder.restart = true → s.recorder.powerEmpty = false → (card d s).state = .ready →
          t.recorder.state = .arming ∧ t.recorder.restart = false ∧ t.recorder.held = s.recorder.after
          ∧ t.recorder.after = [] ∧ t.recorder.pendingStart = s.recorder.pendingStart)
      ∧ t.clock = s.clock ∧ t.lines = s.lines ∧ t.vf = s.vf ∧ t.mem = s.mem)
  ∧ (∀ (n : Fin 32) (c : CardSlot) (left : Nat) (cmd : Instr) (s : State),
    (cmd = .formatEnd c .error ∨ cmd = .cardLinkTimeout c) → (card c s).state = .formatting →
    (card c s).op = some ⟨.format, left, 0, none, true⟩ → (card c s).format = some n →
    s.unit.slots[n].state = .running →
    ∃ t, exec cmd s = .next t
      ∧ card c t = { card c s with state := .fault, op := none, format := none }
      ∧ (isMuted .mediaFault s = false → isLatched .mediaFault t = true)
      ∧ (isMuted (cardClass c) s = false → isLatched (cardClass c) t = true)
      ∧ t.unit = (answered n .mediaFault (byteOf CardState.fault.code
          :: (field32 (card c s).capacity ++ field32 (card c s).free)) s).unit
      ∧ t = { setCard c (card c t) s with events := t.events, unit := t.unit })
  ∧ ∀ (c : CardSlot) (left : Nat) (h : Option CardHeader) (r : IndexRecord) (s : State),
    (card c s).state = .active → (card c s).op = some ⟨.indexWrite, left, 0, h, true⟩ → (card c s).queue = [] →
    (card c s).index = some r → s.recorder.state = .stopping → s.recorder.phase = some .indexing →
    (if c = .a then s.recorder.awaitB else s.recorder.awaitA) = false → isTarget c s = true →
    isTarget (otherCard c) s = false → ∀ k, openClip s = some k →
    let last := addFrames s.clock.rate s.clock.drop k.start ((k.frames : Int) - 1)
    let idle : RecState := if 0 < s.recorder.limit ∧ s.clock.mode = .freeRun then .prerec else .standby
    let state : CardState := if isProtected c s then .protect
      else if (card c s).capacity - (card c s).committed - (card c s).reserved < 64 then .full else .ready
    ∃ t, exec (.indexWriteEnd c .done) s = .next t ∧ openClip t = none ∧ t.recorder.phase = none
      ∧ { k with state := .closed, endLabel := some last } ∈ t.recorder.clips
      ∧ (isMuted .clipClosed s = false → isLatched .clipClosed t = true)
      ∧ t.recorder.targetA = false ∧ t.recorder.targetB = false
      ∧ card c t = { card c s with
          state := state, op := none, index := none, indexCount := min ((card c s).indexCount + 1) 65535
          lastClip := r.number }
      ∧ (s.recorder.restart = false → s.recorder.after = [] →
          t.recorder.state = idle ∧ t.recorder.held = [] ∧ t.recorder.pendingStart = s.recorder.pendingStart
          ∧ (s.recorder.stopReq = none → t.unit = s.unit)
          ∧ ∀ m, s.recorder.stopReq = some m → s.unit.slots[m].state = .running → t.recorder.stopReq = none
              ∧ t.unit = (answered m .ok (field16 k.number ++ field24 k.frames ++ labelBytes last
                  ++ [BitVec.ofNat 8 ((k.reason.map StopReason.code).getD 0)]) s).unit)
      ∧ (s.recorder.restart = true → s.recorder.powerEmpty = false → state = .ready →
          t.recorder.state = .arming ∧ t.recorder.restart = false ∧ t.recorder.held = s.recorder.after
          ∧ t.recorder.after = [] ∧ t.recorder.pendingStart = s.recorder.pendingStart)
      ∧ (isMuted .recState s = false → isLatched .recState t = true)
      ∧ t.clock = s.clock ∧ t.lines = s.lines ∧ t.vf = s.vf ∧ t.mem = s.mem

/-! ### Record engine (Chapter 7) -/

/-- REC_START: refused BUSY in HALTED, LOW_POWER under the power EMPTY flag, NO_MEDIA from an idle state with no READY
card, BUSY in ARMING and in REC with no stop pending, each with nine zero bytes; from an idle state with a READY card
the start is pending and the state ARMING, with REC_STATE latched; in REC with a stop pending and in STOPPING the
restart flag is set, or the start is refused BUSY where it is set already (R112). REC_STOP: in REC with no stop
pending the stop is pending with reason REQUEST; in ARMING the start is abandoned, whatever its source, a REC_START
completing PREEMPTED, the state goes to the idle state, and the stop completes OK; in REC with a stop pending and in
STOPPING the stop that is pending or in progress goes on as it is, the restart flag is cleared, the pending start ends
in the same way, and the request becomes the stop request; with no clip it completes NO_CLIP (R113). An idle state of
PREREC keeps the held list, or in STOPPING the after-stop list, trimmed to the limit, and one of STANDBY discards it;
an extent that leaves is settled DISCARDED (R114, R119, R124). CLEAR_HALT leaves HALTED for the idle state and reports
the state (R126). A REC_START that REC_STOP abandons completes before the REC_STOP (the model's reading, log 62). -/
def Obligations.StartsStopsAndClearHalt : Prop :=
  (∀ (n : Fin 32) (s : State), isStarted n (.recStart n) s = true →
    let refused (status : Status) : Prop :=
      exec (.recStart n) s = .next (answered n status (List.replicate 9 0) s)
    let idle : Prop := s.recorder.state = .standby ∨ s.recorder.state = .prerec
    let stops : Prop :=
      (s.recorder.state = .recording ∧ s.recorder.pendingStop ≠ none) ∨ s.recorder.state = .stopping
    (s.recorder.state = .halted → refused .busy)
    ∧ (s.recorder.state ≠ .halted → s.recorder.powerEmpty = true → refused .lowPower)
    ∧ (idle → s.recorder.powerEmpty = false → s.cardA.state ≠ .ready → s.cardB.state ≠ .ready →
        refused .noMedia)
    ∧ (s.recorder.powerEmpty = false → (s.recorder.state = .arming
        ∨ (s.recorder.state = .recording ∧ s.recorder.pendingStop = none)
        ∨ (stops ∧ s.recorder.restart = true)) → refused .busy)
    ∧ (idle → s.recorder.powerEmpty = false → (s.cardA.state = .ready ∨ s.cardB.state = .ready) →
        ∃ t, exec (.recStart n) s = .next t
          ∧ t.recorder = { s.recorder with state := .arming, pulse := none, pendingStart := some (.request n) }
          ∧ (isMuted .recState s = false → isLatched .recState t = true)
          ∧ t = { running n s with recorder := t.recorder, events := t.events })
    ∧ (stops → s.recorder.powerEmpty = false → s.recorder.restart = false →
        exec (.recStart n) s = .next { running n s with recorder :=
          { s.recorder with restart := true, pendingStart := some (.request n) } }))
  ∧ (∀ (n : Fin 32) (s : State), isStarted n (.recStop n) s = true →
    (s.recorder.state = .recording → s.recorder.pendingStop = none →
      exec (.recStop n) s = .next { running n s with recorder :=
        { s.recorder with pendingStop := some .request, stopReq := some n } })
    ∧ ((∀ m, s.recorder.pendingStart = some (.request m) → m ≠ n ∧ s.unit.slots[m].state = .running) →
      let stops : Prop :=
        (s.recorder.state = .recording ∧ s.recorder.pendingStop ≠ none) ∨ s.recorder.state = .stopping
      let prerec : Prop := 0 < s.recorder.limit ∧ s.clock.mode = .freeRun
      let kept (l : List Extent) : Prop :=
        l = [] ∨ (prerec ∧ (l.map Extent.frames).sum ≤ s.recorder.limit)
      let preempted : State := match s.recorder.pendingStart with
        | some (.request m) => answered m .preempted (List.replicate 9 0) s
        | some .operator | some .cue | none => s
      let apart : Prop := ∀ e ∈ s.recorder.essences, e.slot ≠ n
      (s.recorder.state = .arming → ∃ t, exec (.recStop n) s = .next t
        ∧ t.recorder = { s.recorder with
            pendingStart := none, pulse := none, held := t.recorder.held, essences := t.recorder.essences
            state := if 0 < s.recorder.limit ∧ s.clock.mode = .freeRun then .prerec else .standby }
        ∧ (isMuted .recState s = false → isLatched .recState t = true)
        ∧ idleKeeps s.recorder.limit s.recorder.held t.recorder.held s t
        ∧ (kept s.recorder.held → t.recorder.held = s.recorder.held
          ∧ t.recorder.essences = s.recorder.essences
          ∧ t.unit = (answered n .ok (List.replicate 10 0) preempted).unit)
        ∧ (apart → t.unit.slots[n].state = .completing
          ∧ ⟨n, s.unit.workBase, .ok, List.replicate 10 0, none, true⟩ ∈ t.unit.completions)
        ∧ t = { s with recorder := t.recorder, events := t.events, unit := t.unit })
      ∧ (stops → s.recorder.restart = false → exec (.recStop n) s
          = .next { running n s with recorder := { s.recorder with stopReq := some n } })
      ∧ (stops → s.recorder.restart = true → ∃ t, exec (.recStop n) s = .next t
        ∧ t.recorder = { s.recorder with
            restart := false, pendingStart := none, stopReq := some n
            after := t.recorder.after, essences := t.recorder.essences }
        ∧ (s.recorder.state = .stopping → idleKeeps s.recorder.limit s.recorder.after t.recorder.after s t)
        ∧ ((s.recorder.state = .recording ∨ kept s.recorder.after) →
          t.recorder.after = s.recorder.after ∧ t.recorder.essences = s.recorder.essences
          ∧ t.unit = (running n preempted).unit)
        ∧ (apart → t.unit.slots[n].state = .running)
        ∧ t = { s with recorder := t.recorder, unit := t.unit }))
    ∧ (s.recorder.state = .standby ∨ s.recorder.state = .prerec ∨ s.recorder.state = .halted →
        exec (.recStop n) s = .next (answered n .noClip (List.replicate 10 0) s)))
  ∧ ∀ (n : Fin 32) (s : State), isStarted n (.clearHalt n) s = true →
    (s.recorder.state = .halted → s.recorder.held = [] → ∃ t, exec (.clearHalt n) s = .next t
      ∧ (let idle : RecState :=
          if 0 < s.recorder.limit ∧ s.clock.mode = .freeRun then .prerec else .standby
        t.recorder = { s.recorder with state := idle, pulse := none }
        ∧ t.unit = (answered n .ok [BitVec.ofNat 8 idle.code] s).unit)
      ∧ (isMuted .recState s = false → isLatched .recState t = true)
      ∧ t = { s with recorder := t.recorder, events := t.events, unit := t.unit })
    ∧ (s.recorder.state ≠ .halted → exec (.clearHalt n) s
        = .next (answered n .ok [BitVec.ofNat 8 s.recorder.state.code] s))

/-- WRITE_ESSENCE (R118, R119, R120): a count or a field out of range refuses the whole request BAD_VALUE (its result
is free, log 16); an extent in STANDBY or HALTED settles DISCARDED at once; extents in ARMING join the held list in
order with an essence record. An extent in PREREC joins the held list, and one in STOPPING the after-stop list; in
PREREC, and in STOPPING with the restart flag clear and the idle state PREREC, the oldest extents then leave, settled
DISCARDED, while the frames exceed the limit; in STOPPING with the flag clear and the idle state STANDBY the extent is
settled DISCARDED (R119); an extent in RELAY with card A as the target and room on it is queued there with its blocks
reserved. An extent in RELAY that A has no room for leaves A FULL, or PROTECTED at an idle card whose protect line is
asserted: with B READY and fewer than 8 spans the clip is relayed onto B, with a new span, a RELAY mark and RELAY
latched; with 8 spans a stop with reason SPAN_LIMIT is pending, and with B not READY one with MEDIA_FULL, and the
extent is settled DISCARDED (R121, R99). An extent in MIRROR is queued to both target cards; a card without room
leaves the target cards, and the clip is DEGRADED with a mark that names the card (R120, R123). With the block write
that ends the last queued side of an extent its request completes: OK, with the card it is written on and the clip's
number, and the blocks are added to the span (R120, R124); while DRAINING, that leads to INDEXING with an index
request to each card that holds a span (R125). The blocks are credited to the clip record that was open when the
extent was queued, found by its serial (the model's reading, log 23); how many blocks of the extent the idle run has
sent by the end of its block write is free (the model's choice, log 22), and the clip index count in the header of the
index write holds at 65,535 (the model's choice, log 49). -/
def Obligations.EssenceIsHandledByTheState : Prop :=
  (∀ (n : Fin 32) (extents : List ExtentParam) (s : State), isStarted n (.writeEssence n extents) s = true →
    let good : Prop := ∀ p ∈ extents, 1 ≤ p.length.toNat ∧ p.length.toNat ≤ 8388608 ∧ 1 ≤ p.frames.toNat
      ∧ p.frames.toNat ≤ 600
    ((extents = [] ∨ 16 < extents.length ∨ ¬good) → ∃ t r, exec (.writeEssence n extents) s = .next t
      ∧ r.length ≤ 240 ∧ t = { answered n .badValue r s with freeCount := s.freeCount + 1 })
    ∧ (∀ p, extents = [p] → good → (s.recorder.state = .standby ∨ s.recorder.state = .halted) →
        (∀ e ∈ s.recorder.essences, e.slot ≠ n) →
        exec (.writeEssence n extents) s = .next (answered n .discarded [3, 0, 0] s))
    ∧ (good → extents ≠ [] → extents.length ≤ 16 → s.recorder.state = .arming →
        exec (.writeEssence n extents) s = .next { running n s with recorder := { s.recorder with
          held := s.recorder.held ++ extents.mapIdx fun i p =>
            (⟨n, i, p.address.toNat, p.length.toNat, p.frames.toNat⟩ : Extent)
          essences := s.recorder.essences
            ++ [⟨n, extents.length, List.replicate extents.length ⟨none, 0, none, .none, .none⟩⟩] } })
    ∧ ∀ p k, extents = [p] → good → s.recorder.state = .recording → s.recorder.mirror = false →
        s.recorder.targetA = true → (∀ e ∈ s.recorder.essences, e.slot ≠ n) → openClip s = some k →
        s.cardA.state = .active → (p.length.toNat + 65535) / 65536 ≤ s.cardA.free →
        s.cardA.queue.length < 512 → ∃ t, exec (.writeEssence n extents) s = .next t
          ∧ (let blocks := (p.length.toNat + 65535) / 65536
            t.cardA.queue = s.cardA.queue ++ [⟨⟨n, 0, p.address.toNat, p.length.toNat, p.frames.toNat⟩,
                s.cardA.committed + s.cardA.reserved, blocks⟩]
            ∧ t.cardA.reserved = s.cardA.reserved + blocks)
          ∧ t.cardA.committed = s.cardA.committed ∧ t.cardA.state = .active
          ∧ t.recorder.essences = s.recorder.essences ++ [⟨n, 1, [⟨none, k.number, some k.serial, .queued, .none⟩]⟩]
          ∧ t = { running n s with cardA := t.cardA, recorder := { s.recorder with
              clips := t.recorder.clips, essences := t.recorder.essences } })
  ∧ (∀ (n : Fin 32) (p : ExtentParam) (s : State), isStarted n (.writeEssence n [p]) s = true →
    1 ≤ p.length.toNat → p.length.toNat ≤ 8388608 → 1 ≤ p.frames.toNat → p.frames.toNat ≤ 600 →
    (∀ e ∈ s.recorder.essences, e.slot ≠ n) →
    let e : Extent := ⟨n, 0, p.address.toNat, p.length.toNat, p.frames.toNat⟩
    let fresh : Essence := ⟨n, 1, [⟨none, 0, none, .none, .none⟩]⟩
    let discarded : Prop := exec (.writeEssence n [p]) s = .next (answered n .discarded [3, 0, 0] s)
    let prerec : Prop := 0 < s.recorder.limit ∧ s.clock.mode = .freeRun
    (s.recorder.state = .stopping → s.recorder.restart = true → exec (.writeEssence n [p]) s
      = .next { running n s with recorder := { s.recorder with
          after := s.recorder.after ++ [e], essences := s.recorder.essences ++ [fresh] } })
    ∧ (s.recorder.state = .stopping → s.recorder.restart = false → ¬prerec → s.recorder.after = [] → discarded)
    ∧ ∀ stopping : Bool,
      (if stopping then s.recorder.state = .stopping ∧ s.recorder.restart = false ∧ prerec
        else s.recorder.state = .prerec) →
      let listed (r : Recorder) : List Extent := if stopping then r.after else r.held
      let before := listed s.recorder ++ [e]
      (listed s.recorder = [] → s.recorder.limit < p.frames.toNat → discarded)
      ∧ ∃ t k, exec (.writeEssence n [p]) s = .next t ∧ listed t.recorder = before.drop k
        ∧ ((before.drop k).map Extent.frames).sum ≤ s.recorder.limit
        ∧ (∀ j, j < k → s.recorder.limit < ((before.drop j).map Extent.frames).sum)
        ∧ (k = 0 → t = { running n s with recorder := { s.recorder with
            held := if stopping then s.recorder.held else before
            after := if stopping then before else s.recorder.after
            essences := s.recorder.essences ++ [fresh] } })
        ∧ ∀ (m : Fin 32) (old : Extent) (rest : List Extent), k = 1 → listed s.recorder = old :: rest →
          old.slot = m → old.place = 0 → s.recorder.essences = [⟨m, 1, [⟨none, 0, none, .none, .none⟩]⟩] →
          s.unit.slots[m].state = .running →
          t = { answered m .discarded [3, 0, 0] (running n s) with recorder := { s.recorder with
            held := if stopping then s.recorder.held else rest ++ [e]
            after := if stopping then rest ++ [e] else s.recorder.after
            essences := [fresh] } })
  ∧ (∀ (n : Fin 32) (p : ExtentParam) (s : State), isStarted n (.writeEssence n [p]) s = true →
    1 ≤ p.length.toNat → p.length.toNat ≤ 8388608 → 1 ≤ p.frames.toNat → p.frames.toNat ≤ 600 →
    s.recorder.state = .recording → (∀ e ∈ s.recorder.essences, e.slot ≠ n) → ∀ k, openClip s = some k →
    let e : Extent := ⟨n, 0, p.address.toNat, p.length.toNat, p.frames.toNat⟩
    let blocks := (p.length.toNat + 65535) / 65536
    let free (x : Card) : Nat := x.capacity - x.committed - x.reserved
    let marked (kind : MarkKind) (detail : Option Nat) (x : Clip) : Clip :=
      if 16 ≤ x.marks.length then { x with marksFull := true }
      else { x with marks := x.marks ++ [⟨kind, x.frames - 1, detail⟩] }
    let queued (x : Card) : List QueueEntry := x.queue ++ [⟨e, x.committed + x.reserved, blocks⟩]
    (s.recorder.mirror = false → s.recorder.targetA = true → s.cardA.state = .active → free s.cardA < blocks →
      ∃ t, exec (.writeEssence n [p]) s = .next t ∧ t.recorder.targetA = false
        ∧ t.cardA = { s.cardA with state := if s.lines[(2 : Fin 7)].debounced = true ∧ s.cardA.queue = []
            ∧ s.cardA.op = none ∧ s.cardA.index = none then .protect else .full }
        ∧ (s.cardB.state = .ready → k.spans.length < 8 → blocks ≤ free s.cardB → s.cardB.queue.length < 512 →
          t.recorder.targetB = true ∧ t.cardB.state = .active ∧ t.cardB.queue = queued s.cardB
            ∧ t.cardB.reserved = s.cardB.reserved + blocks
            ∧ openClip t = some (marked .relay none { k with
                spans := k.spans ++ [⟨.b, some (s.cardB.committed + s.cardB.reserved), 0⟩] })
            ∧ t.recorder.essences
                = s.recorder.essences ++ [⟨n, 1, [⟨none, k.number, some k.serial, .none, .queued⟩]⟩]
            ∧ t.recorder.pendingStop = s.recorder.pendingStop ∧ t.unit = (running n s).unit
            ∧ (isMuted .relay s = false → isLatched .relay t = true))
        ∧ (s.cardB.state ≠ .ready ∨ 8 ≤ k.spans.length → s.recorder.pendingStop = none →
          t.recorder.pendingStop = some (if s.cardB.state = .ready then .spanLimit else .mediaFull)
            ∧ t.cardB = s.cardB ∧ t.recorder.essences = s.recorder.essences ∧ openClip t = some k
            ∧ t.unit = (answered n .discarded [3, 0, 0] s).unit)
        ∧ t.recorder.state = .recording ∧ t.clock = s.clock ∧ t.lines = s.lines ∧ t.mem = s.mem)
    ∧ (s.recorder.mirror = true → s.recorder.targetA = true → s.recorder.targetB = true →
      s.cardA.state = .active → s.cardB.state = .active → s.cardA.queue.length < 512 →
      s.cardB.queue.length < 512 → blocks ≤ free s.cardA ∨ blocks ≤ free s.cardB →
      let roomA : Bool := decide (blocks ≤ free s.cardA)
      let roomB : Bool := decide (blocks ≤ free s.cardB)
      ∃ t, exec (.writeEssence n [p]) s = .next t ∧ t.recorder.targetA = roomA ∧ t.recorder.targetB = roomB
        ∧ t.cardA.queue = (if roomA then queued s.cardA else s.cardA.queue)
        ∧ t.cardB.queue = (if roomB then queued s.cardB else s.cardB.queue)
        ∧ t.recorder.essences = s.recorder.essences ++ [⟨n, 1, [⟨none, k.number, some k.serial,
            if roomA then .queued else .failed, if roomB then .queued else .failed⟩]⟩]
        ∧ (∃ k', openClip t = some k' ∧ k'.degraded = (k.degraded || !roomA || !roomB)
          ∧ (roomA = true → roomB = true → k'.marks = k.marks)
          ∧ (roomA = false → k.marks.length < 16 → k'.marks = k.marks ++ [⟨.degraded, k.frames - 1, some 0⟩])
          ∧ (roomB = false → k.marks.length < 16 → k'.marks = k.marks ++ [⟨.degraded, k.frames - 1, some 1⟩]))
        ∧ t.unit = (running n s).unit ∧ t.recorder.state = .recording ∧ t.clock = s.clock ∧ t.lines = s.lines
        ∧ t.mem = s.mem))
  ∧ ∀ (c : CardSlot) (n : Fin 32) (left unsent clip first count : Nat) (record : Option Nat) (e : QueueEntry)
    (s : State), (card c s).state = .active → (card c s).op = some ⟨.blockWrite, left, unsent, none, true⟩ →
    (card c s).queue = [e] → (card c s).index = none → e.extent.slot = n → e.extent.place = 0 →
    s.recorder.essences = [⟨n, 1, [⟨none, clip, record, if c = .a then .queued else .none,
      if c = .b then .queued else .none⟩]⟩] → s.unit.slots[n].state = .running →
    ∃ t, exec (.blockWriteEnd c .done) s = .next t ∧ t.recorder.essences = []
      ∧ (s.recorder.phase = none → t.unit = (answered n .ok ([if c = .a then 0 else 1] ++ field16 clip) s).unit)
      ∧ (∀ k, openClip s = some k → record = some k.serial → k.spans = [⟨c, some first, count⟩] →
          (s.recorder.phase = none → openClip t = some { k with spans := [⟨c, some first, count + e.blocks⟩] })
          ∧ (s.recorder.phase = some .draining → t.recorder.phase = some .indexing
            ∧ t.recorder.awaitA = (c == .a) ∧ t.recorder.awaitB = (c == .b)
            ∧ (card c t).index = some {
                number := k.number, start := k.start
                endLabel := addFrames s.clock.rate s.clock.drop k.start ((k.frames : Int) - 1)
                frames := k.frames, spans := [⟨c, some first, count + e.blocks⟩], preRecord := k.preRecord
                degraded := k.degraded, marksFull := k.marksFull, marks := k.marks }
            ∧ (card c t).op = some ⟨.indexWrite, 6750000, 0, some ⟨(card c s).committed + e.blocks,
                min ((card c s).indexCount + 1) 65535, k.number⟩, true⟩))
      ∧ (card c t).queue = [] ∧ (card c t).committed = (card c s).committed + e.blocks
      ∧ t.clock = s.clock ∧ t.lines = s.lines ∧ t.mem = s.mem

/-- MARK with a clip OPEN adds the mark at the frame offset and completes OK, a GOOD one starting the 200 ms pulse, or
completes DISCARDED with MARKS_FULL at 16 marks (R127 to R129); with no clip OPEN, a CLOSING one included, it
completes NO_CLIP, and with a kind above 1 BAD_VALUE (their results are free, log 16). SET_REC_MODE in an idle state
takes its four values, two of them clamped, and derives the idle state: in PREREC the oldest held extents leave while
the frames exceed the new limit, in STANDBY all of them do, and an extent that leaves is settled DISCARDED (R130, R111,
R119, R124); elsewhere it is BUSY, and BAD_VALUE above 1 (R130), which answers where both apply (the model's choice,
log 45). LIST_CLIPS reports the table's size and up to eight summaries of 18 bytes, as section 11.6 lays them out: the
number, the state with the end label's flag in bit 7, the start label, the end label, the frames, the span and mark
counts, the six flags and the stop reason, 0 where it is absent (R131; an absent end label is 0, the model's reading,
log 18). GOOD_PULSE_EXPIRY and REC_GUARD_EXPIRY stop their timers (R129, R114). A refused
SET_REC_MODE reports the four values in force (the model's reading, log 17). The timers' commands are the
occurrences they name (the model's choice, log 1). -/
def Obligations.MarksModeAndListing : Prop :=
  (∀ (n : Fin 32) (kind detail : Byte) (s : State), isStarted n (.mark n kind detail) s = true →
    (∀ k, openClip s = some k → k.state = .opened → kind.toNat ≤ 1 → ∃ t, exec (.mark n kind detail) s = .next t
      ∧ (k.marks.length < 16 →
          openClip t = some { k with marks := k.marks
            ++ [if kind = 0 then ⟨.good, k.frames - 1, none⟩ else ⟨.cue, k.frames - 1, some detail.toNat⟩] }
          ∧ t.recorder.pulse = (if kind = 0 then some 5400000 else s.recorder.pulse)
          ∧ t.unit = (answered n .ok (field32 (k.frames - 1 : Nat)
              ++ [BitVec.ofNat 8 (k.marks.length + 1)]) s).unit)
      ∧ (16 ≤ k.marks.length → openClip t = some { k with marksFull := true }
          ∧ t.recorder.pulse = s.recorder.pulse
          ∧ t.unit = (answered n .discarded (field32 (k.frames - 1 : Nat)
              ++ [BitVec.ofNat 8 k.marks.length]) s).unit)
      ∧ t = { s with unit := t.unit, recorder := { s.recorder with
          clips := t.recorder.clips, pulse := t.recorder.pulse } })
    ∧ ((1 < kind.toNat ∨ openClip s = none ∨ ∃ k, openClip s = some k ∧ k.state = .closing) →
      ∃ t r, exec (.mark n kind detail) s = .next t ∧ r.length ≤ 240
      ∧ t = { answered n (if 1 < kind.toNat then .badValue else .noClip) r s with
          freeCount := s.freeCount + 1 }))
  ∧ (∀ (n : Fin 32) (mode pref : Byte) (limit rate : BitVec 16) (s : State),
    isStarted n (.setRecMode n mode pref limit rate) s = true →
    let now : List Byte := [if s.recorder.mirror then 1 else 0, if s.recorder.preferred = .a then 0 else 1]
      ++ field16 s.recorder.limit ++ field16 s.recorder.bitrate
    ((1 < mode.toNat ∨ 1 < pref.toNat) →
      exec (.setRecMode n mode pref limit rate) s = .next (answered n .badValue now s))
    ∧ (mode.toNat ≤ 1 → pref.toNat ≤ 1 → s.recorder.state ≠ .standby → s.recorder.state ≠ .prerec →
      exec (.setRecMode n mode pref limit rate) s = .next (answered n .busy now s))
    ∧ (mode.toNat ≤ 1 → pref.toNat ≤ 1 → (s.recorder.state = .standby ∨ s.recorder.state = .prerec) →
      ∃ t, exec (.setRecMode n mode pref limit rate) s = .next t
        ∧ (let l := min limit.toNat 600
          let b := clampNat 10 600 rate.toNat
          let status : Status := if l = limit.toNat ∧ b = rate.toNat then .ok else .okAdjusted
          let result : List Byte := [mode, pref] ++ field16 l ++ field16 b
          let prerec : Prop := 0 < l ∧ s.clock.mode = .freeRun
          t.recorder = { s.recorder with
            mirror := mode == 1, preferred := if pref = 0 then .a else .b, limit := l, bitrate := b
            state := if 0 < l ∧ s.clock.mode = .freeRun then .prerec else .standby
            held := t.recorder.held, essences := t.recorder.essences, pulse := t.recorder.pulse }
          ∧ idleKeeps l s.recorder.held t.recorder.held s t
          ∧ ((s.recorder.held = [] ∨ (prerec ∧ (s.recorder.held.map Extent.frames).sum ≤ l)) →
            t.recorder.held = s.recorder.held ∧ t.recorder.essences = s.recorder.essences
              ∧ t.unit = (answered n status result s).unit)
          ∧ ((∀ e ∈ s.recorder.essences, e.slot ≠ n) → t.unit.slots[n].state = .completing
            ∧ ⟨n, s.unit.workBase, status, result, none, true⟩ ∈ t.unit.completions))
        ∧ t = { s with recorder := t.recorder, events := t.events, unit := t.unit }))
  ∧ (∀ (n : Fin 32) (start : Byte) (s : State), isStarted n (.listClips n start) s = true →
    (start.toNat ≤ 31 → ∃ r, exec (.listClips n start) s = .next (answered n .ok r s)
      ∧ (let listed := (s.recorder.clips.drop start.toNat).take 8
        r.length = 2 + 18 * listed.length
        ∧ byteAt r 0 = BitVec.ofNat 8 s.recorder.clips.length ∧ byteAt r 1 = BitVec.ofNat 8 listed.length
        ∧ ∀ (i : Nat) (h : i < listed.length),
          let k := listed[i]
          let byte (x : Nat) : Byte := BitVec.ofNat 8 x
          let state : Nat := match k.state with
            | .opened => 0 | .closing => 1 | .closed => 2 | .broken => 3
          let last : Label := k.endLabel.getD ⟨0, 0, 0, 0⟩
          let reason : Nat := match k.reason with
            | none => 0
            | some .request => 1 | some .operator => 2 | some .cue => 3 | some .lowPower => 4
            | some .mediaFull => 5 | some .spanLimit => 6 | some .dayLimit => 7
          let flags : Nat := (if k.preRecord then 1 else 0) + (if k.degraded then 2 else 0)
            + (if k.marksFull then 4 else 0) + (if k.indexLostA then 8 else 0) + (if k.indexLostB then 16 else 0)
            + (if k.erased then 32 else 0)
          (r.drop (2 + 18 * i)).take 18 = [byte k.number, byte (k.number / 256),
            byte (state + if k.endLabel.isSome then 128 else 0),
            byte k.start.hours, byte k.start.minutes, byte k.start.seconds, byte k.start.frames,
            byte last.hours, byte last.minutes, byte last.seconds, byte last.frames,
            byte k.frames, byte (k.frames / 256), byte (k.frames / 65536),
            byte k.spans.length, byte k.marks.length, byte flags, byte reason]))
    ∧ (31 < start.toNat → ∃ t r, exec (.listClips n start) s = .next t ∧ r.length ≤ 240
      ∧ t = { answered n .badValue r s with freeCount := s.freeCount + 1 }))
  ∧ ∀ s : State,
    exec .goodPulseExpiry s = .next { s with recorder := { s.recorder with pulse := none } }
    ∧ exec .recGuardExpiry s = .next { s with recorder := { s.recorder with guardTimer := none } }

/-- The frame starts that a block names. With no cue enabled, no preset pending and the iris not held: in ARMING with
one card chosen in RELAY and nothing held, the clip opens with the next number and one frame, and REC is entered. With
any held list the READY cards are chosen by the mode, and the clip opens on them: the held frames and one more, the
start label the frame's less the held frames, PREREC_START where they are above 0, DEGRADED on one card in MIRROR, the
held extents queued, and REC_START OK with the number, the start label and the held frames (R117, R112). With no card
READY it is NO_MEDIA, and the idle state trims or discards the held list. A held extent without room, with no card to
relay to, is DISCARDED and a MEDIA_FULL stop pending; REC handling while the clip opens is the model's choice (log
59). In REC a pending stop leads to STOPPING with the clip CLOSING (R116, R125); DAY_LIMIT_REACHED counts the frame
and makes a stop pending (R116). MUTE_COUNT_EXPIRY makes a mute OFF write pending (R144), LIMITER_RELEASE takes a step
off the reduction (R141), and AGC_RISE adds a gain step up to the ceiling (R142). At every frame start the meter
follows R138; an over with the input in sets the flag and latches AUDIO_OVER, and in REC with no stop pending, no cue
enabled and the spacing run out offers the channel's mark and restarts the spacing (R139). In a manual mode the
limiter follows R141; in AUTO, on INT_MIC with the iris under no recall and no cue enabled, the AGC follows R142. The
applied gain is the pot or host gain less the reduction, or the AGC gain; a GAIN write is pending where it differs
from the last one pending (R140, R143). A write made pending replaces a queued item of its channel and kind, or joins
the tail; a free link takes the first (R145). That several channels' writes join in the order 1 to 4 is the model's
choice (log 6), as are starts that name an occurrence (log 4) and the receivers' order (log 5). -/
def Obligations.FrameStartServesRecordAndAudio : Prop :=
  (∀ (order : List Receiver) (s : State), s.clock.preset = none → (∀ i : Fin 4, s.cues[i].enable = false) →
    s.iris.holder = .none →
    (∀ c, s.recorder.state = .arming → s.recorder.mirror = false → chosenCards s = [c] → s.recorder.held = [] →
      ∃ t k, exec (.frameStart order) s = .next t ∧ t.recorder.state = .recording ∧ k ∈ t.recorder.clips
        ∧ k.state = .opened ∧ k.number = s.recorder.nextClip ∧ k.frames = 1 ∧ k.spans = [⟨c, none, 0⟩]
        ∧ k.start = addFrames s.clock.rate s.clock.drop t.clock.label 0
        ∧ t.recorder.nextClip = (if 9999 ≤ s.recorder.nextClip then 1 else s.recorder.nextClip + 1)
        ∧ t.recorder.pendingStart = none ∧ (card c t).state = .active
        ∧ (isMuted .recState s = false → isLatched .recState t = true)
        ∧ t.lines = s.lines ∧ t.scan = s.scan ∧ t.power = s.power ∧ t.stab = s.stab ∧ t.mem = s.mem)
    ∧ (s.recorder.state = .arming → s.recorder.OneOpenClip →
      let held := s.recorder.held
      let ready (c : CardSlot) : Bool := (card c s).state == .ready
      let cards : List CardSlot := [CardSlot.a, .b].filter fun c =>
        ready c && (s.recorder.mirror || c == s.recorder.preferred || !ready s.recorder.preferred)
      let free (c : CardSlot) : Nat := (card c s).capacity - (card c s).committed - (card c s).reserved
      let blocks (e : Extent) : Nat := (e.length + 65535) / 65536
      let sameRest (t : State) : Prop :=
        t.lines = s.lines ∧ t.scan = s.scan ∧ t.power = s.power ∧ t.stab = s.stab ∧ t.mem = s.mem
      (cards ≠ [] → (∀ c ∈ cards, (held.map blocks).sum ≤ free c ∧ (card c s).queue.length + held.length ≤ 512) →
        ∃ t, exec (.frameStart order) s = .next t ∧ clipOpened cards s t ∧ sameRest t)
      ∧ (cards = [] → ∃ t, exec (.frameStart order) s = .next t
        ∧ t.recorder = { s.recorder with
            pendingStart := none, pulse := none, held := t.recorder.held, essences := t.recorder.essences
            state := if 0 < s.recorder.limit ∧ s.clock.mode = .freeRun then .prerec else .standby }
        ∧ (isMuted .recState s = false → isLatched .recState t = true)
        ∧ idleKeeps s.recorder.limit held t.recorder.held s t
        ∧ ((held = [] ∨ (0 < s.recorder.limit ∧ s.clock.mode = .freeRun
              ∧ (held.map Extent.frames).sum ≤ s.recorder.limit)) →
          t.recorder.held = held ∧ t.recorder.essences = s.recorder.essences
          ∧ ((∀ m, s.recorder.pendingStart ≠ some (.request m)) → t.unit = s.unit)
          ∧ ∀ m, s.recorder.pendingStart = some (.request m) → s.unit.slots[m].state = .running →
            t.unit = (answered m .noMedia (List.replicate 9 0) s).unit)
        ∧ t.cardA = s.cardA ∧ t.cardB = s.cardB ∧ sameRest t)
      ∧ ∀ (c : CardSlot) (e : Extent) (m n : Fin 32), s.recorder.mirror = false → cards = [c] →
        (card (otherCard c) s).state ≠ .ready → held = [e] → free c < blocks e → s.recorder.pendingStop = none →
        e.slot = n → e.place = 0 → s.recorder.essences = [⟨n, 1, [⟨none, 0, none, .none, .none⟩]⟩] →
        s.recorder.pendingStart = some (.request m) → m ≠ n → s.unit.slots[m].state = .running →
        s.unit.slots[n].state = .running →
        ∃ t k, exec (.frameStart order) s = .next t ∧ t.recorder.state = .recording
          ∧ t.recorder.pendingStop = some .mediaFull ∧ t.recorder.targetA = false ∧ t.recorder.targetB = false
          ∧ t.recorder.held = [] ∧ t.recorder.essences = [] ∧ t.recorder.pendingStart = none
          ∧ openClip t = some k ∧ k.state = .opened ∧ k.frames = e.frames + 1 ∧ k.spans = [⟨c, none, 0⟩]
          ∧ ((card c t).state = .full ∨ ((card c t).state = .protect ∧ isProtected c s = true))
          ∧ card c t = { card c s with state := (card c t).state }
          ∧ card (otherCard c) t = card (otherCard c) s
          ∧ t.unit = (answered m .ok (field16 k.number ++ labelBytes k.start ++ field24 e.frames)
              (answered n .discarded [3, 0, 0] s)).unit
          ∧ (isMuted .recState s = false → isLatched .recState t = true) ∧ sameRest t)
    ∧ (∀ k r, s.recorder.state = .recording → s.recorder.pendingStop = some r → openClip s = some k →
      clipQueued k.serial s = true → ∃ t k', exec (.frameStart order) s = .next t
        ∧ t.recorder.state = .stopping ∧ t.recorder.phase = some .draining ∧ t.recorder.pendingStop = none
        ∧ openClip t = some k' ∧ k'.state = .closing ∧ k'.reason = some r ∧ k'.frames = k.frames
        ∧ (isMuted .recState s = false → isLatched .recState t = true)
        ∧ t.cardA = s.cardA ∧ t.cardB = s.cardB ∧ t.lines = s.lines ∧ t.scan = s.scan ∧ t.power = s.power
        ∧ t.stab = s.stab ∧ t.mem = s.mem)
    ∧ ∀ k, s.recorder.state = .recording → s.recorder.pendingStop = none → openClip s = some k →
      k.frames + 1 = framesPerDay s.clock.rate s.clock.drop →
      ∃ t k', exec (.dayLimitReached order) s = .next t ∧ t.recorder.state = .recording
        ∧ t.recorder.pendingStop = some .dayLimit ∧ openClip t = some k' ∧ k'.frames = k.frames + 1
        ∧ t.clock.counter = 0 ∧ t.cardA = s.cardA ∧ t.cardB = s.cardB ∧ t.lines = s.lines ∧ t.scan = s.scan
        ∧ t.power = s.power ∧ t.stab = s.stab ∧ t.mem = s.mem)
  ∧ (∀ (order : List Receiver) (s : State), ∃ t, exec (.frameStart order) s = .next t
    ∧ (let gainPends (i : Fin 4) : Bool :=
        !s.audio.lost && t.audio.channels[i].applied != s.audio.channels[i].lastGain
      let mutePends (i : Fin 4) : Bool := s.audio.channels[i].mute == 1
      let gainOf (i : Fin 4) : CodecItem := ⟨i, .gain t.audio.channels[i].applied⟩
      let gainQueued (i : Fin 4) : Bool := s.audio.queue.any fun y => match y.value with
        | .gain _ => y.channel == i
        | .mute _ => false
        | .input _ _ => false
      let muteQueued (i : Fin 4) : Bool := s.audio.queue.any fun y => match y.value with
        | .gain _ => false
        | .mute _ => y.channel == i
        | .input _ _ => false
      let inPlace (y : CodecItem) : CodecItem := match y.value with
        | .gain _ => if gainPends y.channel then gainOf y.channel else y
        | .mute _ => if mutePends y.channel then ⟨y.channel, .mute false⟩ else y
        | .input _ _ => y
      let added : List CodecItem := (List.finRange 4).flatMap fun i =>
        (if mutePends i && !muteQueued i then [⟨i, .mute false⟩] else [])
          ++ (if gainPends i && !gainQueued i then [gainOf i] else [])
      (s.audio.inFlight ≠ none →
        t.audio.inFlight = s.audio.inFlight ∧ t.audio.queue = s.audio.queue.map inPlace ++ added)
      ∧ (s.audio.inFlight = none → s.audio.queue = [] → t.audio.inFlight.toList ++ t.audio.queue = added))
    ∧ ∀ i : Fin 4,
    let c := s.audio.channels[i]
    let d := t.audio.channels[i]
    let level : Int := if s.audio.lost then -300 else meterLevel (c.peak.getD 0)
    let isOver : Bool := !s.audio.lost && decide (s.audio.overThreshold ≤ level)
    d.held = (if c.held ≤ level then level else if 0 < c.holdCount then c.held else max (c.held - 3) level)
    ∧ d.holdCount = (if c.held ≤ level then s.audio.holdTime else c.holdCount - 1)
    ∧ d.overFlag = (isOver || (c.overFlag && (decide (c.held ≤ level) || decide (0 < c.holdCount))))
    ∧ (isOver = true → isMuted .audioOver s = false → isLatched .audioOver t = true)
    ∧ ((isOver = false ∨ 1 < c.spacing) → d.spacing = c.spacing - 1)
    ∧ d = { c with
        peak := none, level := level, held := d.held, holdCount := d.holdCount, overFlag := d.overFlag
        spacing := d.spacing, reduction := d.reduction, release := d.release, agc := d.agc, quiet := d.quiet
        mute := c.mute - 1, applied := d.applied, lastGain := if s.audio.lost then c.lastGain else d.applied }
    ∧ (let frozen : Bool := s.audio.lost || decide (0 < c.mute)
      let limit := s.audio.limitThreshold
      (s.audio.lost = true → d.applied = c.applied)
      ∧ (c.mode ≠ .auto → d.agc = c.agc ∧ d.quiet = c.quiet
        ∧ (frozen = true → d.reduction = c.reduction ∧ d.release = 0)
        ∧ (frozen = false → limit ≤ level → d.reduction = min (c.reduction + 4) 24 ∧ d.release = 0)
        ∧ (frozen = false → limit - 6 ≤ level → level < limit → d.reduction = c.reduction ∧ d.release = 0)
        ∧ (frozen = false → level < limit - 6 → c.release < 3 →
            d.reduction = c.reduction ∧ d.release = c.release + 1)
        ∧ (frozen = false → level < limit - 6 → 3 ≤ c.release → d.reduction = c.reduction - 1 ∧ d.release = 0)
        ∧ (s.audio.lost = false → c.mode = .pot → d.applied = c.pot.getD 0 - d.reduction)
        ∧ (s.audio.lost = false → c.mode = .host → d.applied = c.hostGain - d.reduction))
      ∧ (c.mode = .auto →
          (c.source ≠ .intMic ∨ (s.iris.holder ≠ .recall ∧ ∀ n : Fin 4, s.cues[n].enable = false)) →
        let zoomFrozen : Bool := c.source == .intMic && decide (64 < s.zoom.applied.natAbs)
        d.reduction = c.reduction ∧ d.release = c.release
        ∧ (frozen = true → d.agc = c.agc ∧ d.quiet = 0)
        ∧ (frozen = false → s.audio.target + 6 < level → d.agc = c.agc - 2 ∧ d.quiet = 0)
        ∧ (frozen = false → s.audio.target - 12 ≤ level → level ≤ s.audio.target + 6 →
            d.agc = c.agc ∧ d.quiet = 0)
        ∧ (frozen = false → level < s.audio.target - 12 → zoomFrozen = true → d.agc = c.agc ∧ d.quiet = 0)
        ∧ (frozen = false → level < s.audio.target - 12 → zoomFrozen = false → c.quiet < 30 →
            d.agc = c.agc ∧ d.quiet = c.quiet + 1)
        ∧ (frozen = false → level < s.audio.target - 12 → zoomFrozen = false → 30 ≤ c.quiet →
            d.agc = min (c.agc + 1) s.audio.ceiling ∧ d.quiet = c.quiet)
        ∧ (s.audio.lost = false → d.applied = d.agc)))
    ∧ ∀ k, isOver = true → c.spacing ≤ 1 → (∀ n : Fin 4, s.cues[n].enable = false) → s.recorder.state = .recording →
      s.recorder.pendingStop = none → openClip s = some k → k.state = .opened →
      d.spacing = 2 * s.clock.rate.labelRate
      ∧ (k.marks.length ≤ 12 → ∃ k' m, openClip t = some k' ∧ m ∈ k'.marks ∧ m.kind = .audioOver
        ∧ m.detail = some (i.val + 1) ∧ (m.offset = k.frames - 1 ∨ m.offset = k.frames)))
  ∧ ∀ (i : Fin 4) (order : List Receiver) (s : State),
    let c := s.audio.channels[i]
    let level := meterLevel (c.peak.getD 0)
    (c.mute = 1 → ∃ t, exec (.muteCountExpiry i order) s = .next t ∧ t.audio.channels[i].mute = 0
      ∧ (⟨i, .mute false⟩ ∈ t.audio.queue ∨ t.audio.inFlight = some ⟨i, .mute false⟩)
      ∧ t.lines = s.lines ∧ t.scan = s.scan ∧ t.power = s.power ∧ t.stab = s.stab ∧ t.mem = s.mem)
    ∧ (s.audio.lost = false → c.mode ≠ .auto → c.mute = 0 → c.release = 3 →
      level < s.audio.limitThreshold - 6 → ∃ t, exec (.limiterRelease i order) s = .next t
        ∧ t.audio.channels[i].reduction = c.reduction - 1 ∧ t.audio.channels[i].release = 0
        ∧ t.audio.channels[i].level = level ∧ t.audio.channels[i].peak = none
        ∧ t.lines = s.lines ∧ t.scan = s.scan ∧ t.power = s.power ∧ t.stab = s.stab ∧ t.mem = s.mem)
    ∧ (s.audio.lost = false → c.mode = .auto → c.mute = 0 → 30 ≤ c.quiet → c.source ≠ .intMic →
      level < s.audio.target - 12 → ∃ t, exec (.agcRise i order) s = .next t
        ∧ t.audio.channels[i].agc = min (c.agc + 1) s.audio.ceiling
        ∧ t.audio.channels[i].applied = min (c.agc + 1) s.audio.ceiling
        ∧ t.audio.channels[i].quiet = c.quiet
        ∧ t.lines = s.lines ∧ t.scan = s.scan ∧ t.power = s.power ∧ t.stab = s.stab ∧ t.mem = s.mem)

/-! ### Audio (Chapter 8) -/

/-- The meter level of a peak: −300 for a peak of 0, and otherwise −(23 − p) × 12 plus the table's entry for the
four bits below the leading one, at bit p; each frame start finds it for every channel from its closed peak, and
−300 while the input is LOST (R137). -/
def Obligations.MeterLevelByTheRule : Prop :=
  meterLevel 0 = -300
  ∧ (∀ peak p : Nat, 2 ^ p ≤ peak → peak < 2 ^ (p + 1) → p ≤ 22 →
    let m := if 4 ≤ p then peak / 2 ^ (p - 4) % 16 else peak * 2 ^ (4 - p) % 16
    meterLevel peak = -((23 - (p : Int)) * 12)
      + ([0, 1, 2, 3, 4, 5, 6, 6, 7, 8, 8, 9, 10, 10, 11, 11] : List Int).getD m 0)
  ∧ (∀ peak : Nat, 1 ≤ peak → peak ≤ 8388607 → -276 ≤ meterLevel peak ∧ meterLevel peak ≤ -1)
  ∧ ∀ (order : List Receiver) (s : State), ∃ t, exec (.frameStart order) s = .next t
    ∧ (∀ i : Fin 4, t.audio.channels[i].peak = none ∧ t.audio.channels[i].level
        = if s.audio.lost then -300 else meterLevel (s.audio.channels[i].peak.getD 0))
    ∧ t.audio.lost = s.audio.lost ∧ t.lines = s.lines ∧ t.scan = s.scan ∧ t.power = s.power ∧ t.mem = s.mem

/-- AUDIO_FRAME restarts the sync gap timer; with the input in it takes each channel's sample into its peak, and
while the input is LOST it starts the recovery timer where none runs (R135, R136). SYNC_GAP_EXPIRY loses the
input: every channel goes silent and AUDIO_INPUT latches. RECOVERY_TIMER_EXPIRY ends the loss with empty peaks
(R136). CODEC_WRITE_END frees the codec link, which starts the head of the write queue (R145). AUDIO_FRAME
stands for the frame sync too, and the timers' commands are the occurrences they name (the model's choices, logs
41 and 1). -/
def Obligations.AudioInputAndCodecLink : Prop :=
  (∀ (x : Vector (BitVec 24) 4) (s : State),
    (s.audio.lost = false → ∃ t, exec (.audioFrame x[0] x[1] x[2] x[3]) s = .next t
      ∧ (∀ i : Fin 4, t.audio.channels[i] = { s.audio.channels[i] with
          peak := some (max (s.audio.channels[i].peak.getD 0) (min x[i].toInt.natAbs 8388607)) })
      ∧ t = { s with audio := { s.audio with gap := 0, channels := t.audio.channels } })
    ∧ (s.audio.lost = true → exec (.audioFrame x[0] x[1] x[2] x[3]) s = .next { s with audio :=
        { s.audio with gap := 0, recovery := some (s.audio.recovery.getD 0) } }))
  ∧ ∀ s : State,
    (s.audio.lost = false → ∃ t, exec .syncGapExpiry s = .next t
      ∧ (∀ i : Fin 4, t.audio.channels[i] = { s.audio.channels[i] with
          peak := none, level := -300, held := -300, holdCount := 0, overFlag := false })
      ∧ t.audio = { s.audio with lost := true, gap := 27000, recovery := none, channels := t.audio.channels }
      ∧ (isMuted .audioInput s = false → isLatched .audioInput t = true)
      ∧ t = { s with audio := t.audio, events := t.events })
    ∧ (s.audio.lost = true → exec .syncGapExpiry s
        = .next { s with audio := { s.audio with gap := 27000, recovery := none } })
    ∧ (s.audio.lost = true → s.audio.recovery ≠ none → ∃ t, exec .recoveryTimerExpiry s = .next t
      ∧ (∀ i : Fin 4, t.audio.channels[i] = { s.audio.channels[i] with peak := none })
      ∧ t.audio = { s.audio with lost := false, recovery := none, channels := t.audio.channels }
      ∧ (isMuted .audioInput s = false → isLatched .audioInput t = true)
      ∧ t = { s with audio := t.audio, events := t.events })
    ∧ (∀ item rest, s.audio.queue = item :: rest → exec .codecWriteEnd s
        = .next { s with audio := { s.audio with inFlight := some item, queue := rest } })
    ∧ (s.audio.queue = [] → exec .codecWriteEnd s
        = .next { s with audio := { s.audio with inFlight := none } })

/-- AUDIO_CONFIG with every group in range gives each channel its source, phantom power, gain mode and host gain, one
above 127 as 127. A change of the gain mode to or from AUTO sets the reduction and the release count to 0, and a change
to AUTO starts the AGC gain at the applied gain in force, at most the ceiling, with a quiet count of 0; without such a
change, and for the AGC gain and the quiet count of a channel that leaves AUTO, the four values stand (R141, R142). A
channel has a mute count of 25 where source or phantom changes, which is a switch: a MUTE ON write and an
INPUT write with the new values become pending for the codec, in that order where the queue holds neither (a MUTE ON
in flight during the mute is not made pending again), and an OPEN clip takes an AUDIO_SWITCH mark with the channel's
number, or MARKS_FULL at 16 marks; without a switch the queue, the link and the clips stand (R144, R145, R127). A
group out of range, MANUAL_POT on channels 3 and 4, or phantom power on another source than EXT_MIC refuses the whole
request with every channel unchanged and reported (R144, R146; the model's reading, log 17). AUDIO_LEVELS takes its
five values, each clamped, and an AGC gain above the ceiling comes down to it (R142, R147). -/
def Obligations.AudioRequestsConfigure : Prop :=
  (∀ (n : Fin 32) (g : List AudioParam) (s : State), isStarted n (.audioConfig n g) s = true → g.length = 4 →
    let fits (i : Nat) (x : AudioParam) : Prop := x.source.toNat ≤ 2 ∧ x.phantom.toNat ≤ 1
      ∧ x.gainMode.toNat ≤ 2 ∧ (2 ≤ i → x.gainMode ≠ 0) ∧ (x.phantom = 1 → x.source = 1)
    let report (a : Audio) : List Byte := a.channels.toList.flatMap fun c =>
      [byteOf c.source.code, if c.phantom then 1 else 0, byteOf c.mode.code, byteOf c.hostGain,
        byteOf c.applied]
    ((∃ i x, g[i]? = some x ∧ ¬fits i x) →
      exec (.audioConfig n g) s = .next (answered n .badValue (report s.audio) s))
    ∧ ((∀ i x, g[i]? = some x → fits i x) → ∃ t, exec (.audioConfig n g) s = .next t
      ∧ (∀ (i : Fin 4) (x : AudioParam), g[i.val]? = some x →
          let c := t.audio.channels[i]
          let old := s.audio.channels[i]
          c.source.code = x.source.toNat ∧ c.phantom = (x.phantom == 1) ∧ c.mode.code = x.gainMode.toNat
          ∧ c.hostGain = min x.hostGain.toNat 127
          ∧ c.mute = (if old.source = c.source ∧ old.phantom = c.phantom then old.mute else 25)
          ∧ c.peak = old.peak ∧ c.held = old.held ∧ c.applied = old.applied ∧ c.pot = old.pot
          ∧ (old.mode ≠ .auto → c.mode = .auto → c.reduction = 0 ∧ c.release = 0
            ∧ c.agc = min old.applied s.audio.ceiling ∧ c.quiet = 0)
          ∧ (old.mode = .auto → c.mode ≠ .auto → c.reduction = 0 ∧ c.release = 0
            ∧ c.agc = old.agc ∧ c.quiet = old.quiet)
          ∧ ((old.mode = .auto ↔ c.mode = .auto) → c.reduction = old.reduction ∧ c.release = old.release
            ∧ c.agc = old.agc ∧ c.quiet = old.quiet)
          ∧ c = { old with
              source := c.source, phantom := c.phantom, mode := c.mode, hostGain := c.hostGain, mute := c.mute
              reduction := c.reduction, release := c.release, agc := c.agc, quiet := c.quiet })
      ∧ t.audio.lost = s.audio.lost ∧ t.audio.ceiling = s.audio.ceiling
      ∧ t.unit = (answered n (if g.any (fun x => decide (127 < x.hostGain.toNat)) then .okAdjusted else .ok)
          (report t.audio) s).unit
      ∧ (let switched (i : Fin 4) : Bool := t.audio.channels[i].source != s.audio.channels[i].source
            || t.audio.channels[i].phantom != s.audio.channels[i].phantom
          let mute (i : Fin 4) : CodecItem := ⟨i, .mute true⟩
          let input (i : Fin 4) : CodecItem := ⟨i, .input t.audio.channels[i].source t.audio.channels[i].phantom⟩
          let marks (k : Clip) : List Mark := ((List.finRange 4).filter switched).map fun i =>
            ⟨.audioSwitch, k.frames - 1, some (i.val + 1)⟩
          (∀ i, switched i = true → (mute i ∈ t.audio.queue ∨ t.audio.inFlight = some (mute i))
            ∧ (input i ∈ t.audio.queue ∨ t.audio.inFlight = some (input i)))
          ∧ ((∀ i, switched i = false) → t.audio.queue = s.audio.queue ∧ t.audio.inFlight = s.audio.inFlight
            ∧ t.recorder = s.recorder)
          ∧ (∀ i, switched i = true → (∀ j, j ≠ i → switched j = false) →
            (∀ x ∈ s.audio.queue, x.channel ≠ i) →
            (s.audio.inFlight = none → s.audio.queue = [] →
              t.audio.inFlight = some (mute i) ∧ t.audio.queue = [input i])
            ∧ ∀ x, s.audio.inFlight = some x → t.audio.inFlight = some x ∧ t.audio.queue = s.audio.queue
              ++ (if 0 < s.audio.channels[i].mute ∧ x = mute i then [input i] else [mute i, input i]))
          ∧ ((∀ k, openClip s = some k → k.state ≠ .opened) → t.recorder = s.recorder)
          ∧ (∀ k, openClip s = some k → k.state = .opened →
            (k.marks.length + (marks k).length ≤ 16 → openClip t = some { k with marks := k.marks ++ marks k })
            ∧ (16 ≤ k.marks.length → marks k ≠ [] → openClip t = some { k with marksFull := true })
            ∧ t.recorder = { s.recorder with clips := t.recorder.clips }))
      ∧ t = { s with audio := t.audio, recorder := t.recorder, unit := t.unit }))
  ∧ ∀ (n : Fin 32) (hold : Byte) (overLevel limit target : BitVec 16) (ceiling : Byte) (s : State),
    isStarted n (.audioLevels n hold overLevel limit target ceiling) s = true →
    let h := clampNat 1 250 hold.toNat
    let o := clampInt (-276) (-1) overLevel.toInt
    let l := clampInt (-276) (-1) limit.toInt
    let g := clampInt (-200) (-20) target.toInt
    let top := min ceiling.toNat 127
    ∃ t, exec (.audioLevels n hold overLevel limit target ceiling) s = .next t
      ∧ (∀ i : Fin 4, t.audio.channels[i] = { s.audio.channels[i] with
          agc := if s.audio.channels[i].mode = .auto then min s.audio.channels[i].agc top
            else s.audio.channels[i].agc })
      ∧ t.audio = { s.audio with
          holdTime := h, overThreshold := o, limitThreshold := l, target := g, ceiling := top,
          channels := t.audio.channels }
      ∧ t.unit = (answered n (if h = hold.toNat ∧ o = overLevel.toInt ∧ l = limit.toInt ∧ g = target.toInt
            ∧ top = ceiling.toNat then .ok else .okAdjusted)
          ([BitVec.ofNat 8 h] ++ field16 o ++ field16 l ++ field16 g ++ [BitVec.ofNat 8 top]) s).unit
      ∧ t = { s with audio := t.audio, unit := t.unit }

/-! ### Viewfinder link and operator controls (Chapter 9) -/

/-- A start, a repeated start or a stop ends the transaction: a write's newest byte takes its END boundary, and a stop
sets the read pointer to 0; nothing happens while the target holds the clock (R150, R152). With the FIFO empty the END
boundary is handed straight to the decoder, which goes to AT_TYPE, an incomplete record discarded and counted as a
decoder error; while a rebuild stops the decoder it is held, and the boundaries held are acted on in their order when
the rebuild ends, where an END on an incomplete record counts an error and an OVERRUN does not (R152, R153). An
address byte with the unit's address is acknowledged, restarts the 200 ms presence timer and makes the viewfinder
PRESENT; another is ignored (R150, R158). A written byte joins the FIFO, or is held for 2 ms with 16 bytes in it; at
the 2 ms the byte is refused, an overrun counted and DIAG latched, and where the decoder takes a byte before, the held
byte joins the tail with ACK and the target is in ADDRESSED_WRITE again (R152). A read sends the shown page's bytes
one after the other (R151). A completed rebuild is swapped in with the next version unless a read of a shown page is
in progress, and then at that read's end (R159); the first swap after a reset releases a held read, which sends the
byte at the pointer (R151, R159). The read pointer goes on when a byte is sent (the model's choice, log 24), and a
data byte without a transaction, in IDLE, has no effect (the model's reading, log 3). -/
def Obligations.LinkTransactions : Prop :=
  ∀ s : State,
    (∀ c : Instr, (c = .linkStart ∨ c = .linkStop) →
      let pointer := if c = .linkStop then 0 else s.vf.pointer
      (s.vf.target.holds = true → exec c s = .next s)
      ∧ (s.vf.target.holds = false → s.vf.writing = false → s.vf.reading = false →
        exec c s = .next { s with vf := { s.vf with target := .idle, pointer := pointer } })
      ∧ (∀ older b mark, s.vf.target.holds = false → s.vf.writing = true → s.vf.reading = false →
        s.vf.fifo = older ++ [(b, mark)] →
        exec c s = .next { s with vf := { s.vf with
          target := .idle, pointer := pointer, writing := false,
          fifo := older ++ [(b, some (if mark = some .overrun then .overrun else .finish))] } })
      ∧ (s.vf.target.holds = false → s.vf.writing = true → s.vf.reading = false → s.vf.fifo = [] →
        let ended : Viewfinder := { s.vf with target := .idle, pointer := pointer, writing := false }
        (s.vf.rebuilding = true →
          exec c s = .next { s with vf := { ended with heldMarks := s.vf.heldMarks ++ [.finish] } })
        ∧ (s.vf.rebuilding = false → exec c s = .next { s with vf := { ended with
            decoder := .atType
            errors := match s.vf.decoder with
              | .inRecord _ => min (s.vf.errors + 1) 65535
              | .atType | .discarding => s.vf.errors } }))
      ∧ (s.vf.target.holds = false → s.vf.writing = false → s.vf.reading = true →
        let ended : Viewfinder := { s.vf with target := .idle, pointer := pointer, reading := false }
        (s.vf.build ≠ .waiting → exec c s = .next { s with vf := ended })
        ∧ (s.vf.build = .waiting → ∃ t, exec c s = .next t ∧ t.vf.shown = some s.vf.building
          ∧ t.vf.page s.vf.building
              = (s.vf.page s.vf.building).set 0 (BitVec.ofNat 8 ((s.vf.version + 1) % 256))
          ∧ (∀ b, b ≠ s.vf.building → t.vf.page b = s.vf.page b)
          ∧ t = { s with vf := { ended with
              pageX := t.vf.pageX, pageY := t.vf.pageY, shown := t.vf.shown, build := .idle
              version := (s.vf.version + 1) % 256 } })))
    ∧ (∀ (a : BitVec 7) (read : Bool), s.vf.target = .idle →
      (a.toNat ≠ s.vf.address → exec (.addressByte a read) s
        = .next { s with vf := { s.vf with target := .ignore, ack := false } })
      ∧ (a.toNat = s.vf.address → ∃ t, exec (.addressByte a read) s = .next t
        ∧ t.vf.present = true ∧ t.vf.presence = some 5400000 ∧ t.vf.ack = true
        ∧ (s.vf.present = false → isMuted .vfPresence s = false → isLatched .vfPresence t = true)
        ∧ (read = false → t.vf.target = .addressedWrite ∧ t.vf.writing = true
            ∧ t.vf.pointer = s.vf.pointer)
        ∧ (read = true → s.vf.shown = none → t.vf.target = .holdRead ∧ t.vf.reading = true)
        ∧ (∀ b, read = true → s.vf.shown = some b → t.vf.target = .addressedRead ∧ t.vf.reading = true
            ∧ t.vf.sentByte = byteAt (s.vf.page b) s.vf.pointer ∧ t.vf.pointer = (s.vf.pointer + 1) % 64)
        ∧ t.vf.fifo = s.vf.fifo ∧ t.vf.shown = s.vf.shown ∧ t = { s with vf := t.vf, events := t.events }))
    ∧ (∀ byte : Byte,
      (s.vf.target = .addressedWrite → s.vf.fifo.length < 16 → exec (.writeDataByte byte) s
        = .next { s with vf := { s.vf with fifo := s.vf.fifo ++ [(byte, none)], ack := true } })
      ∧ (s.vf.target = .addressedWrite → 16 ≤ s.vf.fifo.length → exec (.writeDataByte byte) s
        = .next { s with vf := { s.vf with target := .holdWrite byte, holdTimer := some 54000 } })
      ∧ (s.vf.target = .ignore ∨ s.vf.target = .idle → exec (.writeDataByte byte) s = .next s)
      ∧ (∀ b mark rest, s.vf.target = .holdWrite byte → s.vf.rebuilding = false → s.vf.fifo = (b, mark) :: rest →
        ∃ t, exec .decoderTakeByte s = .next t ∧ t.vf.fifo = rest ++ [(byte, none)] ∧ t.vf.ack = true
          ∧ t.vf.holdTimer = none ∧ t.vf.target = .addressedWrite
          ∧ exec .decoderTakeByte { s with vf := { s.vf with
            target := .addressedWrite, ack := true, holdTimer := none, fifo := s.vf.fifo ++ [(byte, none)] } }
              = .next t)
      ∧ ∀ older b mark, s.vf.target = .holdWrite byte → s.vf.fifo = older ++ [(b, mark)] →
        ∃ t, exec .writeHoldTimeout s = .next t
          ∧ t.vf = { s.vf with
              target := .ignore, ack := false, holdTimer := none, overruns := min (s.vf.overruns + 1) 65535,
              fifo := older ++ [(b, some .overrun)] }
          ∧ (isMuted .diag s = false → isLatched .diag t = true)
          ∧ t = { s with vf := t.vf, events := t.events })
    ∧ (s.vf.target = .addressedRead →
      (∀ b, s.vf.shown = some b → exec (.readByteAcknowledge true) s = .next { s with vf := { s.vf with
          sentByte := byteAt (s.vf.page b) s.vf.pointer, pointer := (s.vf.pointer + 1) % 64 } })
      ∧ exec (.readByteAcknowledge false) s = .next { s with vf := { s.vf with target := .ignore } })
    ∧ ∀ left, s.vf.build = .building left →
      let met : Viewfinder := if s.vf.heldMarks = [] then s.vf else { s.vf with
        heldMarks := [], decoder := .atType
        errors := match s.vf.decoder, s.vf.heldMarks.head? with
          | .inRecord _, some .finish => min (s.vf.errors + 1) 65535
          | _, _ => s.vf.errors }
      (s.vf.shown ≠ none → s.vf.reading = true →
        exec .pageRebuildComplete s = .next { s with vf := { met with build := .waiting } })
      ∧ (s.vf.shown = none → s.vf.target = .holdRead → ∃ t, exec .pageRebuildComplete s = .next t
        ∧ t.vf.shown = some s.vf.building ∧ t.vf.page s.vf.building
            = (s.vf.page s.vf.building).set 0 (BitVec.ofNat 8 ((s.vf.version + 1) % 256))
        ∧ (∀ b, b ≠ s.vf.building → t.vf.page b = s.vf.page b)
        ∧ t = { s with vf := { met with
            pageX := t.vf.pageX, pageY := t.vf.pageY, shown := t.vf.shown, build := .idle
            version := (s.vf.version + 1) % 256, target := .addressedRead
            sentByte := byteAt (t.vf.page s.vf.building) s.vf.pointer, pointer := (s.vf.pointer + 1) % 64 } })
      ∧ (s.vf.reading = false → s.vf.target ≠ .holdRead → ∃ t, exec .pageRebuildComplete s = .next t
        ∧ t.vf.build = .idle ∧ t.vf.version = (s.vf.version + 1) % 256 ∧ t.vf.shown = some s.vf.building
        ∧ t.vf.page s.vf.building
            = (s.vf.page s.vf.building).set 0 (BitVec.ofNat 8 ((s.vf.version + 1) % 256))
        ∧ (∀ b, b ≠ s.vf.building → t.vf.page b = s.vf.page b)
        ∧ t = { s with vf := { met with
            pageX := t.vf.pageX, pageY := t.vf.pageY, shown := t.vf.shown, build := .idle,
            version := t.vf.version } })

/-- Outside a rebuild and a write hold the decoder takes the oldest byte: a known type starts a record, an unknown one
is counted and discards bytes up to the next boundary (R153). Each record acts when its last byte is taken: the
pointer (R154), the rocker, which takes the zoom for the operator (R154, R40), a focus delta, which moves the focus
target and reports it to the tracking block (R155, R53), an iris delta (R155, R56), a button, and a panel key, of
which eight are kept (R157). A BUTTON record with a code above 3 or a state above 1 is an error, and a press of a held
button or a release of one not held is ignored; a REC press inside the REC guard does nothing, and outside it is an
operator press (R114); GOOD_SHOT adds a GOOD mark to an OPEN clip (R127, R129), SHOT starts the press timing (R74),
and STAB_TOGGLE changes the mode but in CALIBRATING (R80); a release acts for SHOT alone (R156, R74). A value other
than 0 that reaches an axis preempts its host request, which completes PREEMPTED with the axis's position, or the
recall that claims it, which ends PREEMPTED with its entry kept and its other claims withdrawn (R40, R53, R56, R73);
an absent position is reported as 0 (log 18). A byte that carries a boundary ends the record it leaves incomplete: END
counts a decoder error and OVERRUN does not, and the decoder is at a type byte again; on the byte that completes a
record the boundary does nothing (R152, R153). A record's command is the taking of the byte that completes it (the
model's choice, log 4). -/
def Obligations.DecoderTakesRecords : Prop :=
  (∀ (b : Byte) (rest : List (Byte × Option Boundary)) (s : State), s.vf.rebuilding = false →
    (∀ x, s.vf.target ≠ .holdWrite x) → s.vf.fifo = (b, none) :: rest →
    let taken : Viewfinder := { s.vf with fifo := rest, decoder := .atType }
    (s.vf.decoder = .atType → (1 ≤ b.toNat ∧ b.toNat ≤ 6) → exec .decoderTakeByte s
        = .next { s with vf := { taken with decoder := .inRecord [b] } })
    ∧ (s.vf.decoder = .atType → (b.toNat = 0 ∨ 6 < b.toNat) → exec .decoderTakeByte s
        = .next { s with vf := { taken with
            decoder := .discarding, errors := min (s.vf.errors + 1) 65535 } })
    ∧ (s.vf.decoder = .discarding → exec .decoderTakeByte s
        = .next { s with vf := { s.vf with fifo := rest } })
    ∧ (s.vf.decoder = .inRecord [1] → exec (.pointer b) s
        = .next { s with vf := { taken with pointer := min b.toNat 63 } })
    ∧ (s.vf.decoder = .inRecord [2] →
        let v : Int := if b.toInt < -127 then -127 else b.toInt
        (v ≠ 0 → s.zoom.holder ≠ .recall →
          (∀ h, s.zoom.host = some h → s.unit.slots[h.slot].state = .running) → ∃ t, exec (.rocker b) s = .next t
          ∧ t.vf = { taken with rocker := v, zoomHold := .held }
          ∧ t.zoom.holder = .operator ∧ t.zoom.host = none ∧ t.zoom.rocker = v ∧ t.zoom.demand = v
          ∧ t.unit = (match s.zoom.host with
            | some h => (answered h.slot .preempted (field16 (s.zoom.z.getD 0)) s).unit
            | none => s.unit)
          ∧ t = { s with vf := t.vf, zoom := t.zoom, unit := t.unit, events := t.events })
        ∧ (∀ r : Recall, v ≠ 0 → s.zoom.holder = .recall → s.zoom.host = none → s.shots.op = some (.moving r) →
          (∀ k, r.source = .request k → s.unit.slots[k].state = .running) → ∃ t, exec (.rocker b) s = .next t
          ∧ t.vf = { taken with rocker := v, zoomHold := .held }
          ∧ t.zoom.holder = .operator ∧ t.zoom.recallClaim = none ∧ t.zoom.rocker = v ∧ t.zoom.demand = v
          ∧ recallPreempted .zoom r s t ∧ t = { s with
            vf := t.vf, zoom := t.zoom, focus := t.focus, iris := t.iris, track := { s.track with lag := t.track.lag }
            shots := t.shots, unit := t.unit, events := t.events })
        ∧ (v = 0 → s.zoom.holder = .operator → s.vf.zoomHold = .held → ∃ t, exec (.rocker b) s = .next t
          ∧ t.vf = { taken with rocker := 0, zoomHold := .timing 13500000 }
          ∧ t.zoom.holder = .operator ∧ t.zoom.rocker = 0 ∧ t.zoom.demand = 0 ∧ t.zoom.applied = 0
          ∧ t = { s with vf := t.vf, zoom := t.zoom, events := t.events }))
    ∧ (∀ low : Byte, s.vf.decoder = .inRecord [3, low] →
        let d := clampInt (-8191) 8191 (b ++ low).toInt
        (d = 0 → exec (.focusDelta (b ++ low)) s = .next { s with vf := taken })
        ∧ (d ≠ 0 → (s.focus.state = .idle ∨ s.focus.state = .moving) → ∀ r? : Option Recall,
          (s.focus.holder = .recall ↔ r? ≠ none) → (∀ r, r? = some r → s.focus.host = none
            ∧ s.shots.op = some (.moving r) ∧ ∀ k, r.source = .request k → s.unit.slots[k].state = .running) →
          (∀ h, s.focus.host = some h → s.unit.slots[h.slot].state = .running) →
          ∃ t, exec (.focusDelta (b ++ low)) s = .next t
            ∧ t.vf = { taken with focusHold := some 13500000 }
            ∧ t.focus.holder = .operator ∧ t.focus.host = none ∧ t.focus.rate = 16 ∧ t.focus.pos = s.focus.pos
            ∧ (t.focus.target : Int) = max 0 (min (s.focus.near : Int) ((s.focus.target : Int) + d))
            ∧ t.track.d = (match s.track.table with
              | some table => inverseD table (s.zoom.z.getD 0) t.focus.target
              | none => s.track.d)
            ∧ (r? = none → t.iris = s.iris ∧ t.shots = s.shots ∧ t.unit = (match s.focus.host with
              | some h => (answered h.slot .preempted (field16 (s.focus.pos.getD 0)) s).unit
              | none => s.unit))
            ∧ (∀ r, r? = some r → recallPreempted .focus r s t)
            ∧ t.clock = s.clock ∧ t.lines = s.lines ∧ t.recorder = s.recorder ∧ t.cues = s.cues ∧ t.mem = s.mem))
    ∧ (s.vf.decoder = .inRecord [4] →
        (b = 0 → exec (.irisDelta b) s = .next { s with vf := taken })
        ∧ (∀ t', b ≠ 0 → s.iris.target = some t' →
          (∀ h, s.iris.host = some h → s.unit.slots[h.slot].state = .running) →
          let now : State := { s with
            vf := { taken with irisHold := some 13500000 },
            iris := { s.iris with
              holder := .operator, host := none, recallTarget := none, settle := 0,
              target := some (max 0 (min 255 ((t' : Int) + b.toInt))).toNat } }
          (s.iris.holder ≠ .recall → exec (.irisDelta b) s = .next (match s.iris.host with
            | some h => answered h.slot .preempted [byteOf (s.iris.pos.getD 0)] now
            | none => now))
          ∧ ∀ r : Recall, s.iris.holder = .recall → s.iris.host = none → s.shots.op = some (.moving r) →
            (∀ k, r.source = .request k → s.unit.slots[k].state = .running) → ∃ t,
            exec (.irisDelta b) s = .next t ∧ recallPreempted .iris r s t ∧ t = { now with
              zoom := t.zoom, focus := t.focus, track := { s.track with lag := t.track.lag }, shots := t.shots
              unit := t.unit, events := t.events }))
    ∧ (∀ code : Byte, s.vf.decoder = .inRecord [5, code] →
        ((3 < code.toNat ∨ 1 < b.toNat) → exec (.button code b) s
          = .next { s with vf := { taken with errors := min (s.vf.errors + 1) 65535 } })
        ∧ (code = 0 → b = 1 → s.vf.buttons.record = false → s.recorder.guardTimer ≠ none →
          exec (.button code b) s
            = .next { s with vf := { taken with buttons := { s.vf.buttons with record := true } } })
        ∧ (code = 2 → b = 1 → s.vf.buttons.shot = false → s.shots.press = none → exec (.button code b) s
          = .next { s with
              vf := { taken with buttons := { s.vf.buttons with shot := true } },
              shots := { s.shots with press := some ⟨.viewfinder, some 27000000, false⟩ } })
        ∧ (code = 0 → b = 1 → s.vf.buttons.record = false → s.recorder.guardTimer = none →
          ∃ t, exec (.button code b) s = .next t ∧ pressActed s t ∧ t = { s with
            vf := { taken with buttons := { s.vf.buttons with record := true } }
            recorder := t.recorder, events := t.events, unit := t.unit })
        ∧ (code = 1 → b = 1 → s.vf.buttons.goodShot = false →
          let held : Viewfinder := { taken with buttons := { s.vf.buttons with goodShot := true } }
          ((∀ k, openClip s = some k → k.state ≠ .opened) → exec (.button code b) s = .next { s with vf := held })
          ∧ ∀ k, openClip s = some k → k.state = .opened → ∃ t, exec (.button code b) s = .next t
            ∧ openClip t = some (if k.marks.length < 16 then
                { k with marks := k.marks ++ [⟨.good, k.frames - 1, none⟩] } else { k with marksFull := true })
            ∧ t.recorder.pulse = (if k.marks.length < 16 then some 5400000 else s.recorder.pulse)
            ∧ t = { s with vf := held, recorder := { s.recorder with
                clips := t.recorder.clips, pulse := t.recorder.pulse } })
        ∧ (code = 3 → b = 1 → s.vf.buttons.stabToggle = false →
          let held : Viewfinder := { taken with buttons := { s.vf.buttons with stabToggle := true } }
          (s.stab.state = .calibrating → exec (.button code b) s = .next { s with vf := held })
          ∧ (s.stab.state ≠ .calibrating → ∃ t, exec (.button code b) s = .next t
            ∧ t.stab.mode = (if s.stab.mode = .on then .off else .on)
            ∧ t.stab.state = (if s.stab.mode = .on then .off else if s.stab.powerEmpty then .held else .settling)
            ∧ (t.stab.state ≠ s.stab.state → t.stab.yaw.drive = 0 ∧ t.stab.pitch.drive = 0
              ∧ (isMuted .stabState s = false → isLatched .stabState t = true))
            ∧ t.stab.powerEmpty = s.stab.powerEmpty ∧ t.stab.yaw.bias = s.stab.yaw.bias
            ∧ t.stab.pitch.bias = s.stab.pitch.bias
            ∧ t = { s with vf := held, stab := t.stab, events := t.events }))
        ∧ (let held : Bool := if code = 0 then s.vf.buttons.record else if code = 1 then s.vf.buttons.goodShot
            else if code = 2 then s.vf.buttons.shot else s.vf.buttons.stabToggle
          let now : Buttons := if code = 0 then { s.vf.buttons with record := false }
            else if code = 1 then { s.vf.buttons with goodShot := false }
            else if code = 2 then { s.vf.buttons with shot := false } else { s.vf.buttons with stabToggle := false }
          (code.toNat ≤ 3 → b.toNat ≤ 1 → held = (b == 1) →
            exec (.button code b) s = .next { s with vf := taken })
          ∧ (code.toNat ≤ 3 → b = 0 → held = true →
            (code ≠ 2 → exec (.button code b) s = .next { s with vf := { taken with buttons := now } })
            ∧ (code = 2 → (∀ p, s.shots.press = some p → p.source = .line) →
              exec (.button code b) s = .next { s with vf := { taken with buttons := now } })
            ∧ ∀ p, code = 2 → s.shots.press = some p → p.source = .viewfinder →
              let stopped : State := { s with
                vf := { taken with buttons := now }, shots := { s.shots with press := none } }
              (p.pushed = true → exec (.button code b) s = .next stopped)
              ∧ (p.pushed = false → ∃ t, exec (.button code b) s = .next t ∧ pressRecalled stopped t))))
    ∧ (∀ key : Byte, s.vf.decoder = .inRecord [6, key] →
        (1 < b.toNat → exec (.panelKey key b) s
          = .next { s with vf := { taken with errors := min (s.vf.errors + 1) 65535 } })
        ∧ (b.toNat ≤ 1 → ∃ t, exec (.panelKey key b) s = .next t
          ∧ t.vf = (if s.vf.keys.length < 8 then
              { taken with keys := s.vf.keys ++ [⟨key, b == 1, stampNow s⟩] }
            else { taken with drops := min (s.vf.drops + 1) 255 })
          ∧ (isMuted .vfKey s = false → isLatched .vfKey t = true)
          ∧ t = { s with vf := t.vf, events := t.events })))
  ∧ ∀ (b : Byte) (m : Boundary) (rest : List (Byte × Option Boundary)) (s : State), s.vf.rebuilding = false →
    (∀ x, s.vf.target ≠ .holdWrite x) → s.vf.fifo = (b, some m) :: rest →
    let ends (d : DecoderState) (n : Nat) : Host.Outcome State Fault Refusal := .next { s with vf := { s.vf with
      fifo := rest, decoder := d, errors := min (s.vf.errors + n) 65535 } }
    let whole : Option Nat := match s.vf.decoder with
      | .inRecord (type :: _) => if type.toNat = 3 ∨ type.toNat = 5 ∨ type.toNat = 6 then some 3 else some 2
      | .inRecord [] => none
      | .atType => none
      | .discarding => none
    (s.vf.decoder = .atType → (1 ≤ b.toNat ∧ b.toNat ≤ 6) → s.vf.errors ≤ 65535 →
        exec .decoderTakeByte s = ends .atType (if m = .finish then 1 else 0))
    ∧ (s.vf.decoder = .atType → (b.toNat = 0 ∨ 6 < b.toNat) → s.vf.errors ≤ 65535 →
        exec .decoderTakeByte s = ends .atType 1)
    ∧ (s.vf.decoder = .discarding → s.vf.errors ≤ 65535 → exec .decoderTakeByte s = ends .atType 0)
    ∧ (∀ type kept, s.vf.decoder = .inRecord (type :: kept) → 1 ≤ type.toNat → type.toNat ≤ 6 →
        (∀ k, whole = some k → kept.length + 2 < k → s.vf.errors ≤ 65535 →
          exec .decoderTakeByte s = ends .atType (if m = .finish then 1 else 0))
        ∧ (whole = some (kept.length + 2) → exec .decoderTakeByte s
          = exec .decoderTakeByte { s with vf := { s.vf with fifo := (b, none) :: rest } }))

/-- ZOOM_HOLD_EXPIRY lets the operator's zoom go with a demand of 0; AXIS_HOLD_EXPIRY lets the operator's focus or
iris go (R154, R155, R40, R53, R56). PRESENCE_TIMER_EXPIRY makes the viewfinder ABSENT: VF_PRESENCE latches, every
hold ends, every button is released, and the FIFO, with the boundaries held for the decoder, and the decoder are
emptied, while the panel keys stay (R158). A write transaction ends for the target, which goes to IGNORE, a write hold
released with NACK and its hold timer stopped; with none the target stays as it is. A zoom that the operator's hold
has is let go with a rocker value and a demand of 0, and so are a focus and an iris that the operator holds; an axis
with another holder keeps it (R40, R53, R56). A held SHOT button ends the viewfinder's press timing with no push and
no recall, and a press of the line goes on (R74). The commands are the occurrences they name (the model's choice, log
1). -/
def Obligations.HoldsAndPresenceExpire : Prop :=
  ∀ s : State,
    (∀ left, s.vf.zoomHold = .timing left → s.zoom.holder = .operator → ∃ t, exec .zoomHoldExpiry s = .next t
      ∧ t.vf = { s.vf with zoomHold := .none } ∧ t.zoom.holder = .none ∧ t.zoom.rocker = 0
      ∧ t.zoom.demand = 0 ∧ t.zoom.applied = 0
      ∧ t = { s with vf := t.vf, zoom := t.zoom, events := t.events })
    ∧ (∀ left, s.vf.focusHold = some left → exec (.axisHoldExpiry .focus) s = .next { s with
        vf := { s.vf with focusHold := none },
        focus := { s.focus with holder := if s.focus.holder = .operator then .none else s.focus.holder } })
    ∧ (∀ left, s.vf.irisHold = some left → exec (.axisHoldExpiry .iris) s = .next { s with
        vf := { s.vf with irisHold := none },
        iris := { s.iris with holder := if s.iris.holder = .operator then .none else s.iris.holder } })
    ∧ (s.vf.present = true → ∃ t, exec .presenceTimerExpiry s = .next t
      ∧ t.vf.present = false ∧ t.vf.presence = none ∧ t.vf.rocker = 0 ∧ t.vf.zoomHold = .none
      ∧ t.vf.focusHold = none ∧ t.vf.irisHold = none ∧ t.vf.buttons = ⟨false, false, false, false⟩
      ∧ t.vf.fifo = [] ∧ t.vf.heldMarks = [] ∧ t.vf.decoder = .atType ∧ t.vf.writing = false
      ∧ t.vf.keys = s.vf.keys
      ∧ (s.vf.writing = true → t.vf.target = .ignore)
      ∧ (s.vf.writing = false → t.vf.target = s.vf.target)
      ∧ (∀ b, s.vf.writing = true → s.vf.target = .holdWrite b → t.vf.ack = false ∧ t.vf.holdTimer = none)
      ∧ ((s.vf.writing = false ∨ ∀ b, s.vf.target ≠ .holdWrite b) →
          t.vf.ack = s.vf.ack ∧ t.vf.holdTimer = s.vf.holdTimer)
      ∧ t.vf = { s.vf with
          present := false, presence := none, rocker := 0, zoomHold := .none, focusHold := none, irisHold := none
          buttons := t.vf.buttons, fifo := [], heldMarks := [], decoder := .atType, writing := false
          target := t.vf.target, ack := t.vf.ack, holdTimer := t.vf.holdTimer }
      ∧ (isMuted .vfPresence s = false → isLatched .vfPresence t = true)
      ∧ (s.zoom.holder = .operator → t.zoom.rocker = 0 ∧ t.zoom.demand = 0 ∧ t.zoom.applied = 0
        ∧ t.zoom.holder = if s.vf.zoomHold = .none then .operator else .none)
      ∧ (s.zoom.holder ≠ .operator → t.zoom = { s.zoom with
          rocker := if s.vf.zoomHold = .none then s.zoom.rocker else 0 })
      ∧ (∀ left, s.vf.focusHold = some left → t.focus.holder ≠ .operator)
      ∧ (∀ left, s.vf.irisHold = some left → t.iris.holder ≠ .operator)
      ∧ t.focus = { s.focus with
          holder := if s.focus.holder = .operator ∧ s.vf.focusHold ≠ none then .none else s.focus.holder }
      ∧ t.iris = { s.iris with
          holder := if s.iris.holder = .operator ∧ s.vf.irisHold ≠ none then .none else s.iris.holder }
      ∧ (∀ p, s.shots.press = some p → s.vf.buttons.shot = true → p.source = .viewfinder →
          t.shots = { s.shots with press := none })
      ∧ ((s.vf.buttons.shot = false ∨ ∀ p, s.shots.press = some p → p.source = .line) → t.shots = s.shots)
      ∧ t.recorder = s.recorder ∧ t.clock = s.clock ∧ t.lines = s.lines ∧ t.mem = s.mem
      ∧ t = { s with
          vf := t.vf, zoom := t.zoom, focus := t.focus, iris := t.iris, shots := t.shots, events := t.events })
end

