-- ==== Sys2Proof/Laws/Memory.lean ====
section
/-! SUPPORT. The bytes of main memory that the part has written: reads after writes, and the canonical form
kept by every write. -/

namespace Sys2Proof.Machine

theorem memRead_memWrite_same (m : List Host.Cell) (a : Nat) (b : Byte) :
    memRead (memWrite m a b) a = some b := by
  induction m with
  | nil => simp [memWrite, memRead]
  | cons x rest ih =>
    obtain ⟨x, c⟩ := x
    simp only [memWrite]
    split
    · simp [memRead]
    · split
      · simp [memRead]
      · rename_i h
        simp [memRead, Ne.symm h, ih]

theorem memRead_memWrite_other (m : List Host.Cell) (a a' : Nat) (b : Byte) (h : a ≠ a') :
    memRead (memWrite m a b) a' = memRead m a' := by
  induction m with
  | nil => simp [memWrite, memRead, h]
  | cons x rest ih =>
    obtain ⟨x, c⟩ := x
    simp only [memWrite]
    split
    · simp [memRead, h]
    · split
      · rename_i e
        subst e
        simp [memRead, h]
      · simp [memRead, ih]

/-- A list in the canonical form under a lower bound: the first address, where there is one, is above it. -/
theorem Memory.wf_cons (a : Host.Cell) (m : List Host.Cell) :
    Memory.wf (a :: m) = true ↔ Memory.wf m = true ∧ ∀ b ∈ m.head?, a.1 < b.1 := by
  cases m with
  | nil => simp [Memory.wf]
  | cons b rest => simp [Memory.wf, and_comm]

theorem memWrite_head (m : List Host.Cell) (a : Nat) (b : Byte) :
    ∀ c ∈ (memWrite m a b).head?, c.1 = a ∨ ∃ d ∈ m.head?, c.1 = d.1 := by
  cases m with
  | nil => simp [memWrite]
  | cons x rest =>
    obtain ⟨x, c⟩ := x
    simp only [memWrite]
    split
    · simp
    · split <;> simp_all

/-- A write keeps the canonical form. -/
theorem Memory.wf_memWrite (m : List Host.Cell) (a : Nat) (b : Byte) (h : Memory.wf m = true) :
    Memory.wf (memWrite m a b) = true := by
  induction m with
  | nil => simp [memWrite, Memory.wf]
  | cons x rest ih =>
    obtain ⟨x, c⟩ := x
    rw [Memory.wf_cons] at h
    simp only [memWrite]
    split
    · rename_i hlt
      rw [Memory.wf_cons, Memory.wf_cons]
      exact ⟨h, by simpa using hlt⟩
    · rename_i hlt
      split
      · rename_i e
        subst e
        rw [Memory.wf_cons]
        exact h
      · rename_i hne
        rw [Memory.wf_cons]
        refine ⟨ih h.1, fun d hd => ?_⟩
        rcases memWrite_head rest a b d hd with e | ⟨y, hy, e⟩
        · simp only [e]; omega
        · simpa [e] using h.2 y hy

/-- A series of writes keeps the canonical form. -/
theorem Memory.wf_memWriteAll (cells m : List Host.Cell) (h : Memory.wf m = true) :
    Memory.wf (memWriteAll m cells) = true := by
  induction cells generalizing m with
  | nil => exact h
  | cons c rest ih => exact ih _ (Memory.wf_memWrite m c.1 c.2 h)

/-- A series of writes leaves every address that it does not name as it was. -/
theorem memRead_memWriteAll_other (cells m : List Host.Cell) (a : Nat) (h : ∀ c ∈ cells, c.1 ≠ a) :
    memRead (memWriteAll m cells) a = memRead m a := by
  induction cells generalizing m with
  | nil => rfl
  | cons c rest ih =>
    simp only [memWriteAll]
    rw [ih _ fun d hd => h d (List.mem_cons_of_mem _ hd)]
    exact memRead_memWrite_other m c.1 a c.2 (h c List.mem_cons_self)

/-- The addresses of consecutive bytes. -/
theorem mem_cellsFrom {at0 : Nat} {bytes : List Byte} {c : Host.Cell} (h : c ∈ cellsFrom at0 bytes) :
    at0 ≤ c.1 ∧ c.1 < at0 + bytes.length := by
  induction bytes generalizing at0 with
  | nil => simp [cellsFrom] at h
  | cons b rest ih =>
    rcases List.mem_cons.1 h with e | h
    · subst e; simp
    · have := ih h
      simp only [List.length_cons]
      omega

/-- Consecutive bytes are read back from where they were written. -/
theorem memRead_cellsFrom (m : List Host.Cell) (at0 : Nat) (bytes : List Byte) (i : Nat)
    (h : i < bytes.length) : memRead (memWriteAll m (cellsFrom at0 bytes)) (at0 + i) = some bytes[i] := by
  induction bytes generalizing at0 m i with
  | nil => simp at h
  | cons b rest ih =>
    simp only [cellsFrom, memWriteAll]
    cases i with
    | zero =>
      rw [memRead_memWriteAll_other _ _ _ fun c hc => by have := mem_cellsFrom hc; omega]
      simpa using memRead_memWrite_same m at0 b
    | succ j =>
      have := ih (memWrite m at0 b) (at0 + 1) j (by simpa using h)
      simpa [Nat.add_assoc, Nat.add_comm 1] using this

theorem memWriteAll_append (m x y : List Host.Cell) :
    memWriteAll m (x ++ y) = memWriteAll (memWriteAll m x) y := by
  induction x generalizing m with
  | nil => rfl
  | cons c rest ih => exact ih _

/-- The writes of a series that are made are writes of the series. -/
theorem mem_of_mem_made {e : BusEnd} {unit : Nat} {writes : List Host.Cell} {c : Host.Cell}
    (h : c ∈ BusEnd.made e unit writes) :
    c ∈ writes := by
  cases e with
  | ok => exact h
  | error n => exact List.mem_of_mem_take h

end Sys2Proof.Machine
end

