-- ==== Sys2Proof/Laws/State.lean ====
section
/-! SUPPORT. What each named update of the state leaves alone and what it sets, one lemma per field, true by
unfolding. -/

namespace Sys2Proof.Machine

variable (s : State)

/-! ### `evalAlert` -/

@[simp] theorem evalAlert_clock : (evalAlert s).clock = s.clock := rfl
@[simp] theorem evalAlert_lines : (evalAlert s).lines = s.lines := rfl
@[simp] theorem evalAlert_scan : (evalAlert s).scan = s.scan := rfl
@[simp] theorem evalAlert_power : (evalAlert s).power = s.power := rfl
@[simp] theorem evalAlert_zoom : (evalAlert s).zoom = s.zoom := rfl
@[simp] theorem evalAlert_focus : (evalAlert s).focus = s.focus := rfl
@[simp] theorem evalAlert_iris : (evalAlert s).iris = s.iris := rfl
@[simp] theorem evalAlert_conflict : (evalAlert s).conflict = s.conflict := rfl
@[simp] theorem evalAlert_track : (evalAlert s).track = s.track := rfl
@[simp] theorem evalAlert_shots : (evalAlert s).shots = s.shots := rfl
@[simp] theorem evalAlert_stab : (evalAlert s).stab = s.stab := rfl
@[simp] theorem evalAlert_cardA : (evalAlert s).cardA = s.cardA := rfl
@[simp] theorem evalAlert_cardB : (evalAlert s).cardB = s.cardB := rfl
@[simp] theorem evalAlert_recorder : (evalAlert s).recorder = s.recorder := rfl
@[simp] theorem evalAlert_audio : (evalAlert s).audio = s.audio := rfl
@[simp] theorem evalAlert_vf : (evalAlert s).vf = s.vf := rfl
@[simp] theorem evalAlert_cues : (evalAlert s).cues = s.cues := rfl
@[simp] theorem evalAlert_unit : (evalAlert s).unit = s.unit := rfl
@[simp] theorem evalAlert_mem : (evalAlert s).mem = s.mem := rfl
@[simp] theorem evalAlert_busRead : (evalAlert s).busRead = s.busRead := rfl
@[simp] theorem evalAlert_freeCount : (evalAlert s).freeCount = s.freeCount := rfl
@[simp] theorem evalAlert_pending : (evalAlert s).pending = s.pending := rfl

/-! ### `latch` -/

@[simp] theorem latch_clock (c : EventClass) : (latch c s).clock = s.clock := rfl
@[simp] theorem latch_lines (c : EventClass) : (latch c s).lines = s.lines := rfl
@[simp] theorem latch_scan (c : EventClass) : (latch c s).scan = s.scan := rfl
@[simp] theorem latch_power (c : EventClass) : (latch c s).power = s.power := rfl
@[simp] theorem latch_zoom (c : EventClass) : (latch c s).zoom = s.zoom := rfl
@[simp] theorem latch_focus (c : EventClass) : (latch c s).focus = s.focus := rfl
@[simp] theorem latch_iris (c : EventClass) : (latch c s).iris = s.iris := rfl
@[simp] theorem latch_conflict (c : EventClass) : (latch c s).conflict = s.conflict := rfl
@[simp] theorem latch_track (c : EventClass) : (latch c s).track = s.track := rfl
@[simp] theorem latch_shots (c : EventClass) : (latch c s).shots = s.shots := rfl
@[simp] theorem latch_stab (c : EventClass) : (latch c s).stab = s.stab := rfl
@[simp] theorem latch_cardA (c : EventClass) : (latch c s).cardA = s.cardA := rfl
@[simp] theorem latch_cardB (c : EventClass) : (latch c s).cardB = s.cardB := rfl
@[simp] theorem latch_recorder (c : EventClass) : (latch c s).recorder = s.recorder := rfl
@[simp] theorem latch_audio (c : EventClass) : (latch c s).audio = s.audio := rfl
@[simp] theorem latch_vf (c : EventClass) : (latch c s).vf = s.vf := rfl
@[simp] theorem latch_cues (c : EventClass) : (latch c s).cues = s.cues := rfl
@[simp] theorem latch_unit (c : EventClass) : (latch c s).unit = s.unit := rfl
@[simp] theorem latch_mem (c : EventClass) : (latch c s).mem = s.mem := rfl
@[simp] theorem latch_busRead (c : EventClass) : (latch c s).busRead = s.busRead := rfl
@[simp] theorem latch_freeCount (c : EventClass) : (latch c s).freeCount = s.freeCount := rfl
@[simp] theorem latch_pending (c : EventClass) : (latch c s).pending = s.pending := rfl

/-! ### `setDone` -/

@[simp] theorem setDone_clock (n : Fin 32) : (setDone n s).clock = s.clock := rfl
@[simp] theorem setDone_lines (n : Fin 32) : (setDone n s).lines = s.lines := rfl
@[simp] theorem setDone_scan (n : Fin 32) : (setDone n s).scan = s.scan := rfl
@[simp] theorem setDone_power (n : Fin 32) : (setDone n s).power = s.power := rfl
@[simp] theorem setDone_zoom (n : Fin 32) : (setDone n s).zoom = s.zoom := rfl
@[simp] theorem setDone_focus (n : Fin 32) : (setDone n s).focus = s.focus := rfl
@[simp] theorem setDone_iris (n : Fin 32) : (setDone n s).iris = s.iris := rfl
@[simp] theorem setDone_conflict (n : Fin 32) : (setDone n s).conflict = s.conflict := rfl
@[simp] theorem setDone_track (n : Fin 32) : (setDone n s).track = s.track := rfl
@[simp] theorem setDone_shots (n : Fin 32) : (setDone n s).shots = s.shots := rfl
@[simp] theorem setDone_stab (n : Fin 32) : (setDone n s).stab = s.stab := rfl
@[simp] theorem setDone_cardA (n : Fin 32) : (setDone n s).cardA = s.cardA := rfl
@[simp] theorem setDone_cardB (n : Fin 32) : (setDone n s).cardB = s.cardB := rfl
@[simp] theorem setDone_recorder (n : Fin 32) : (setDone n s).recorder = s.recorder := rfl
@[simp] theorem setDone_audio (n : Fin 32) : (setDone n s).audio = s.audio := rfl
@[simp] theorem setDone_vf (n : Fin 32) : (setDone n s).vf = s.vf := rfl
@[simp] theorem setDone_cues (n : Fin 32) : (setDone n s).cues = s.cues := rfl
@[simp] theorem setDone_mem (n : Fin 32) : (setDone n s).mem = s.mem := rfl
@[simp] theorem setDone_busRead (n : Fin 32) : (setDone n s).busRead = s.busRead := rfl
@[simp] theorem setDone_freeCount (n : Fin 32) : (setDone n s).freeCount = s.freeCount := rfl
@[simp] theorem setDone_pending (n : Fin 32) : (setDone n s).pending = s.pending := rfl

/-! ### `clearDone` -/

@[simp] theorem clearDone_clock (n : Fin 32) : (clearDone n s).clock = s.clock := rfl
@[simp] theorem clearDone_lines (n : Fin 32) : (clearDone n s).lines = s.lines := rfl
@[simp] theorem clearDone_scan (n : Fin 32) : (clearDone n s).scan = s.scan := rfl
@[simp] theorem clearDone_power (n : Fin 32) : (clearDone n s).power = s.power := rfl
@[simp] theorem clearDone_zoom (n : Fin 32) : (clearDone n s).zoom = s.zoom := rfl
@[simp] theorem clearDone_focus (n : Fin 32) : (clearDone n s).focus = s.focus := rfl
@[simp] theorem clearDone_iris (n : Fin 32) : (clearDone n s).iris = s.iris := rfl
@[simp] theorem clearDone_conflict (n : Fin 32) : (clearDone n s).conflict = s.conflict := rfl
@[simp] theorem clearDone_track (n : Fin 32) : (clearDone n s).track = s.track := rfl
@[simp] theorem clearDone_shots (n : Fin 32) : (clearDone n s).shots = s.shots := rfl
@[simp] theorem clearDone_stab (n : Fin 32) : (clearDone n s).stab = s.stab := rfl
@[simp] theorem clearDone_cardA (n : Fin 32) : (clearDone n s).cardA = s.cardA := rfl
@[simp] theorem clearDone_cardB (n : Fin 32) : (clearDone n s).cardB = s.cardB := rfl
@[simp] theorem clearDone_recorder (n : Fin 32) : (clearDone n s).recorder = s.recorder := rfl
@[simp] theorem clearDone_audio (n : Fin 32) : (clearDone n s).audio = s.audio := rfl
@[simp] theorem clearDone_vf (n : Fin 32) : (clearDone n s).vf = s.vf := rfl
@[simp] theorem clearDone_cues (n : Fin 32) : (clearDone n s).cues = s.cues := rfl
@[simp] theorem clearDone_mem (n : Fin 32) : (clearDone n s).mem = s.mem := rfl
@[simp] theorem clearDone_busRead (n : Fin 32) : (clearDone n s).busRead = s.busRead := rfl
@[simp] theorem clearDone_freeCount (n : Fin 32) : (clearDone n s).freeCount = s.freeCount := rfl
@[simp] theorem clearDone_pending (n : Fin 32) : (clearDone n s).pending = s.pending := rfl

/-! ### `setSlotState` -/

@[simp] theorem setSlotState_clock (n : Fin 32) (st : SlotState) : (setSlotState n st s).clock = s.clock := rfl
@[simp] theorem setSlotState_lines (n : Fin 32) (st : SlotState) : (setSlotState n st s).lines = s.lines := rfl
@[simp] theorem setSlotState_scan (n : Fin 32) (st : SlotState) : (setSlotState n st s).scan = s.scan := rfl
@[simp] theorem setSlotState_power (n : Fin 32) (st : SlotState) : (setSlotState n st s).power = s.power := rfl
@[simp] theorem setSlotState_zoom (n : Fin 32) (st : SlotState) : (setSlotState n st s).zoom = s.zoom := rfl
@[simp] theorem setSlotState_focus (n : Fin 32) (st : SlotState) : (setSlotState n st s).focus = s.focus := rfl
@[simp] theorem setSlotState_iris (n : Fin 32) (st : SlotState) : (setSlotState n st s).iris = s.iris := rfl
@[simp] theorem setSlotState_conflict (n : Fin 32) (st : SlotState) : (setSlotState n st s).conflict = s.conflict := rfl
@[simp] theorem setSlotState_track (n : Fin 32) (st : SlotState) : (setSlotState n st s).track = s.track := rfl
@[simp] theorem setSlotState_shots (n : Fin 32) (st : SlotState) : (setSlotState n st s).shots = s.shots := rfl
@[simp] theorem setSlotState_stab (n : Fin 32) (st : SlotState) : (setSlotState n st s).stab = s.stab := rfl
@[simp] theorem setSlotState_cardA (n : Fin 32) (st : SlotState) : (setSlotState n st s).cardA = s.cardA := rfl
@[simp] theorem setSlotState_cardB (n : Fin 32) (st : SlotState) : (setSlotState n st s).cardB = s.cardB := rfl
@[simp] theorem setSlotState_recorder (n : Fin 32) (st : SlotState) : (setSlotState n st s).recorder = s.recorder := rfl
@[simp] theorem setSlotState_audio (n : Fin 32) (st : SlotState) : (setSlotState n st s).audio = s.audio := rfl
@[simp] theorem setSlotState_vf (n : Fin 32) (st : SlotState) : (setSlotState n st s).vf = s.vf := rfl
@[simp] theorem setSlotState_cues (n : Fin 32) (st : SlotState) : (setSlotState n st s).cues = s.cues := rfl
@[simp] theorem setSlotState_events (n : Fin 32) (st : SlotState) : (setSlotState n st s).events = s.events := rfl
@[simp] theorem setSlotState_mem (n : Fin 32) (st : SlotState) : (setSlotState n st s).mem = s.mem := rfl
@[simp] theorem setSlotState_busRead (n : Fin 32) (st : SlotState) : (setSlotState n st s).busRead = s.busRead := rfl
@[simp] theorem setSlotState_freeCount (n : Fin 32) (st : SlotState) : (setSlotState n st s).freeCount = s.freeCount := rfl
@[simp] theorem setSlotState_pending (n : Fin 32) (st : SlotState) : (setSlotState n st s).pending = s.pending := rfl

/-! ### `useFree` -/

@[simp] theorem useFree_clock (n : Nat) : (useFree n s).clock = s.clock := rfl
@[simp] theorem useFree_lines (n : Nat) : (useFree n s).lines = s.lines := rfl
@[simp] theorem useFree_scan (n : Nat) : (useFree n s).scan = s.scan := rfl
@[simp] theorem useFree_power (n : Nat) : (useFree n s).power = s.power := rfl
@[simp] theorem useFree_zoom (n : Nat) : (useFree n s).zoom = s.zoom := rfl
@[simp] theorem useFree_focus (n : Nat) : (useFree n s).focus = s.focus := rfl
@[simp] theorem useFree_iris (n : Nat) : (useFree n s).iris = s.iris := rfl
@[simp] theorem useFree_conflict (n : Nat) : (useFree n s).conflict = s.conflict := rfl
@[simp] theorem useFree_track (n : Nat) : (useFree n s).track = s.track := rfl
@[simp] theorem useFree_shots (n : Nat) : (useFree n s).shots = s.shots := rfl
@[simp] theorem useFree_stab (n : Nat) : (useFree n s).stab = s.stab := rfl
@[simp] theorem useFree_cardA (n : Nat) : (useFree n s).cardA = s.cardA := rfl
@[simp] theorem useFree_cardB (n : Nat) : (useFree n s).cardB = s.cardB := rfl
@[simp] theorem useFree_recorder (n : Nat) : (useFree n s).recorder = s.recorder := rfl
@[simp] theorem useFree_audio (n : Nat) : (useFree n s).audio = s.audio := rfl
@[simp] theorem useFree_vf (n : Nat) : (useFree n s).vf = s.vf := rfl
@[simp] theorem useFree_cues (n : Nat) : (useFree n s).cues = s.cues := rfl
@[simp] theorem useFree_events (n : Nat) : (useFree n s).events = s.events := rfl
@[simp] theorem useFree_unit (n : Nat) : (useFree n s).unit = s.unit := rfl
@[simp] theorem useFree_mem (n : Nat) : (useFree n s).mem = s.mem := rfl
@[simp] theorem useFree_busRead (n : Nat) : (useFree n s).busRead = s.busRead := rfl
@[simp] theorem useFree_pending (n : Nat) : (useFree n s).pending = s.pending := rfl

/-! ### `updateUnit` -/

@[simp] theorem updateUnit_clock (f : SlotUnit → SlotUnit) : (updateUnit f s).clock = s.clock := rfl
@[simp] theorem updateUnit_lines (f : SlotUnit → SlotUnit) : (updateUnit f s).lines = s.lines := rfl
@[simp] theorem updateUnit_scan (f : SlotUnit → SlotUnit) : (updateUnit f s).scan = s.scan := rfl
@[simp] theorem updateUnit_power (f : SlotUnit → SlotUnit) : (updateUnit f s).power = s.power := rfl
@[simp] theorem updateUnit_zoom (f : SlotUnit → SlotUnit) : (updateUnit f s).zoom = s.zoom := rfl
@[simp] theorem updateUnit_focus (f : SlotUnit → SlotUnit) : (updateUnit f s).focus = s.focus := rfl
@[simp] theorem updateUnit_iris (f : SlotUnit → SlotUnit) : (updateUnit f s).iris = s.iris := rfl
@[simp] theorem updateUnit_conflict (f : SlotUnit → SlotUnit) : (updateUnit f s).conflict = s.conflict := rfl
@[simp] theorem updateUnit_track (f : SlotUnit → SlotUnit) : (updateUnit f s).track = s.track := rfl
@[simp] theorem updateUnit_shots (f : SlotUnit → SlotUnit) : (updateUnit f s).shots = s.shots := rfl
@[simp] theorem updateUnit_stab (f : SlotUnit → SlotUnit) : (updateUnit f s).stab = s.stab := rfl
@[simp] theorem updateUnit_cardA (f : SlotUnit → SlotUnit) : (updateUnit f s).cardA = s.cardA := rfl
@[simp] theorem updateUnit_cardB (f : SlotUnit → SlotUnit) : (updateUnit f s).cardB = s.cardB := rfl
@[simp] theorem updateUnit_recorder (f : SlotUnit → SlotUnit) : (updateUnit f s).recorder = s.recorder := rfl
@[simp] theorem updateUnit_audio (f : SlotUnit → SlotUnit) : (updateUnit f s).audio = s.audio := rfl
@[simp] theorem updateUnit_vf (f : SlotUnit → SlotUnit) : (updateUnit f s).vf = s.vf := rfl
@[simp] theorem updateUnit_cues (f : SlotUnit → SlotUnit) : (updateUnit f s).cues = s.cues := rfl
@[simp] theorem updateUnit_events (f : SlotUnit → SlotUnit) : (updateUnit f s).events = s.events := rfl
@[simp] theorem updateUnit_mem (f : SlotUnit → SlotUnit) : (updateUnit f s).mem = s.mem := rfl
@[simp] theorem updateUnit_busRead (f : SlotUnit → SlotUnit) : (updateUnit f s).busRead = s.busRead := rfl
@[simp] theorem updateUnit_freeCount (f : SlotUnit → SlotUnit) : (updateUnit f s).freeCount = s.freeCount := rfl
@[simp] theorem updateUnit_pending (f : SlotUnit → SlotUnit) : (updateUnit f s).pending = s.pending := rfl

/-! ### `updateClock` -/

@[simp] theorem updateClock_lines (f : Clock → Clock) : (updateClock f s).lines = s.lines := rfl
@[simp] theorem updateClock_scan (f : Clock → Clock) : (updateClock f s).scan = s.scan := rfl
@[simp] theorem updateClock_power (f : Clock → Clock) : (updateClock f s).power = s.power := rfl
@[simp] theorem updateClock_zoom (f : Clock → Clock) : (updateClock f s).zoom = s.zoom := rfl
@[simp] theorem updateClock_focus (f : Clock → Clock) : (updateClock f s).focus = s.focus := rfl
@[simp] theorem updateClock_iris (f : Clock → Clock) : (updateClock f s).iris = s.iris := rfl
@[simp] theorem updateClock_conflict (f : Clock → Clock) : (updateClock f s).conflict = s.conflict := rfl
@[simp] theorem updateClock_track (f : Clock → Clock) : (updateClock f s).track = s.track := rfl
@[simp] theorem updateClock_shots (f : Clock → Clock) : (updateClock f s).shots = s.shots := rfl
@[simp] theorem updateClock_stab (f : Clock → Clock) : (updateClock f s).stab = s.stab := rfl
@[simp] theorem updateClock_cardA (f : Clock → Clock) : (updateClock f s).cardA = s.cardA := rfl
@[simp] theorem updateClock_cardB (f : Clock → Clock) : (updateClock f s).cardB = s.cardB := rfl
@[simp] theorem updateClock_recorder (f : Clock → Clock) : (updateClock f s).recorder = s.recorder := rfl
@[simp] theorem updateClock_audio (f : Clock → Clock) : (updateClock f s).audio = s.audio := rfl
@[simp] theorem updateClock_vf (f : Clock → Clock) : (updateClock f s).vf = s.vf := rfl
@[simp] theorem updateClock_cues (f : Clock → Clock) : (updateClock f s).cues = s.cues := rfl
@[simp] theorem updateClock_events (f : Clock → Clock) : (updateClock f s).events = s.events := rfl
@[simp] theorem updateClock_unit (f : Clock → Clock) : (updateClock f s).unit = s.unit := rfl
@[simp] theorem updateClock_mem (f : Clock → Clock) : (updateClock f s).mem = s.mem := rfl
@[simp] theorem updateClock_busRead (f : Clock → Clock) : (updateClock f s).busRead = s.busRead := rfl
@[simp] theorem updateClock_freeCount (f : Clock → Clock) : (updateClock f s).freeCount = s.freeCount := rfl
@[simp] theorem updateClock_pending (f : Clock → Clock) : (updateClock f s).pending = s.pending := rfl

/-! ### `updateVf` -/

@[simp] theorem updateVf_clock (f : Viewfinder → Viewfinder) : (updateVf f s).clock = s.clock := rfl
@[simp] theorem updateVf_lines (f : Viewfinder → Viewfinder) : (updateVf f s).lines = s.lines := rfl
@[simp] theorem updateVf_scan (f : Viewfinder → Viewfinder) : (updateVf f s).scan = s.scan := rfl
@[simp] theorem updateVf_power (f : Viewfinder → Viewfinder) : (updateVf f s).power = s.power := rfl
@[simp] theorem updateVf_zoom (f : Viewfinder → Viewfinder) : (updateVf f s).zoom = s.zoom := rfl
@[simp] theorem updateVf_focus (f : Viewfinder → Viewfinder) : (updateVf f s).focus = s.focus := rfl
@[simp] theorem updateVf_iris (f : Viewfinder → Viewfinder) : (updateVf f s).iris = s.iris := rfl
@[simp] theorem updateVf_conflict (f : Viewfinder → Viewfinder) : (updateVf f s).conflict = s.conflict := rfl
@[simp] theorem updateVf_track (f : Viewfinder → Viewfinder) : (updateVf f s).track = s.track := rfl
@[simp] theorem updateVf_shots (f : Viewfinder → Viewfinder) : (updateVf f s).shots = s.shots := rfl
@[simp] theorem updateVf_stab (f : Viewfinder → Viewfinder) : (updateVf f s).stab = s.stab := rfl
@[simp] theorem updateVf_cardA (f : Viewfinder → Viewfinder) : (updateVf f s).cardA = s.cardA := rfl
@[simp] theorem updateVf_cardB (f : Viewfinder → Viewfinder) : (updateVf f s).cardB = s.cardB := rfl
@[simp] theorem updateVf_recorder (f : Viewfinder → Viewfinder) : (updateVf f s).recorder = s.recorder := rfl
@[simp] theorem updateVf_audio (f : Viewfinder → Viewfinder) : (updateVf f s).audio = s.audio := rfl
@[simp] theorem updateVf_cues (f : Viewfinder → Viewfinder) : (updateVf f s).cues = s.cues := rfl
@[simp] theorem updateVf_events (f : Viewfinder → Viewfinder) : (updateVf f s).events = s.events := rfl
@[simp] theorem updateVf_unit (f : Viewfinder → Viewfinder) : (updateVf f s).unit = s.unit := rfl
@[simp] theorem updateVf_mem (f : Viewfinder → Viewfinder) : (updateVf f s).mem = s.mem := rfl
@[simp] theorem updateVf_busRead (f : Viewfinder → Viewfinder) : (updateVf f s).busRead = s.busRead := rfl
@[simp] theorem updateVf_freeCount (f : Viewfinder → Viewfinder) : (updateVf f s).freeCount = s.freeCount := rfl
@[simp] theorem updateVf_pending (f : Viewfinder → Viewfinder) : (updateVf f s).pending = s.pending := rfl

/-! ### `updateLine` -/

@[simp] theorem updateLine_clock (i : Fin 7) (f : Line → Line) : (updateLine i f s).clock = s.clock := rfl
@[simp] theorem updateLine_scan (i : Fin 7) (f : Line → Line) : (updateLine i f s).scan = s.scan := rfl
@[simp] theorem updateLine_power (i : Fin 7) (f : Line → Line) : (updateLine i f s).power = s.power := rfl
@[simp] theorem updateLine_zoom (i : Fin 7) (f : Line → Line) : (updateLine i f s).zoom = s.zoom := rfl
@[simp] theorem updateLine_focus (i : Fin 7) (f : Line → Line) : (updateLine i f s).focus = s.focus := rfl
@[simp] theorem updateLine_iris (i : Fin 7) (f : Line → Line) : (updateLine i f s).iris = s.iris := rfl
@[simp] theorem updateLine_conflict (i : Fin 7) (f : Line → Line) : (updateLine i f s).conflict = s.conflict := rfl
@[simp] theorem updateLine_track (i : Fin 7) (f : Line → Line) : (updateLine i f s).track = s.track := rfl
@[simp] theorem updateLine_shots (i : Fin 7) (f : Line → Line) : (updateLine i f s).shots = s.shots := rfl
@[simp] theorem updateLine_stab (i : Fin 7) (f : Line → Line) : (updateLine i f s).stab = s.stab := rfl
@[simp] theorem updateLine_cardA (i : Fin 7) (f : Line → Line) : (updateLine i f s).cardA = s.cardA := rfl
@[simp] theorem updateLine_cardB (i : Fin 7) (f : Line → Line) : (updateLine i f s).cardB = s.cardB := rfl
@[simp] theorem updateLine_recorder (i : Fin 7) (f : Line → Line) : (updateLine i f s).recorder = s.recorder := rfl
@[simp] theorem updateLine_audio (i : Fin 7) (f : Line → Line) : (updateLine i f s).audio = s.audio := rfl
@[simp] theorem updateLine_vf (i : Fin 7) (f : Line → Line) : (updateLine i f s).vf = s.vf := rfl
@[simp] theorem updateLine_cues (i : Fin 7) (f : Line → Line) : (updateLine i f s).cues = s.cues := rfl
@[simp] theorem updateLine_events (i : Fin 7) (f : Line → Line) : (updateLine i f s).events = s.events := rfl
@[simp] theorem updateLine_unit (i : Fin 7) (f : Line → Line) : (updateLine i f s).unit = s.unit := rfl
@[simp] theorem updateLine_mem (i : Fin 7) (f : Line → Line) : (updateLine i f s).mem = s.mem := rfl
@[simp] theorem updateLine_busRead (i : Fin 7) (f : Line → Line) : (updateLine i f s).busRead = s.busRead := rfl
@[simp] theorem updateLine_freeCount (i : Fin 7) (f : Line → Line) : (updateLine i f s).freeCount = s.freeCount := rfl
@[simp] theorem updateLine_pending (i : Fin 7) (f : Line → Line) : (updateLine i f s).pending = s.pending := rfl

/-! ### `updateOpen` -/

@[simp] theorem updateOpen_clock (f : Clip → Clip) : (updateOpen f s).clock = s.clock := rfl
@[simp] theorem updateOpen_lines (f : Clip → Clip) : (updateOpen f s).lines = s.lines := rfl
@[simp] theorem updateOpen_scan (f : Clip → Clip) : (updateOpen f s).scan = s.scan := rfl
@[simp] theorem updateOpen_power (f : Clip → Clip) : (updateOpen f s).power = s.power := rfl
@[simp] theorem updateOpen_zoom (f : Clip → Clip) : (updateOpen f s).zoom = s.zoom := rfl
@[simp] theorem updateOpen_focus (f : Clip → Clip) : (updateOpen f s).focus = s.focus := rfl
@[simp] theorem updateOpen_iris (f : Clip → Clip) : (updateOpen f s).iris = s.iris := rfl
@[simp] theorem updateOpen_conflict (f : Clip → Clip) : (updateOpen f s).conflict = s.conflict := rfl
@[simp] theorem updateOpen_track (f : Clip → Clip) : (updateOpen f s).track = s.track := rfl
@[simp] theorem updateOpen_shots (f : Clip → Clip) : (updateOpen f s).shots = s.shots := rfl
@[simp] theorem updateOpen_stab (f : Clip → Clip) : (updateOpen f s).stab = s.stab := rfl
@[simp] theorem updateOpen_cardA (f : Clip → Clip) : (updateOpen f s).cardA = s.cardA := rfl
@[simp] theorem updateOpen_cardB (f : Clip → Clip) : (updateOpen f s).cardB = s.cardB := rfl
@[simp] theorem updateOpen_audio (f : Clip → Clip) : (updateOpen f s).audio = s.audio := rfl
@[simp] theorem updateOpen_vf (f : Clip → Clip) : (updateOpen f s).vf = s.vf := rfl
@[simp] theorem updateOpen_cues (f : Clip → Clip) : (updateOpen f s).cues = s.cues := rfl
@[simp] theorem updateOpen_events (f : Clip → Clip) : (updateOpen f s).events = s.events := rfl
@[simp] theorem updateOpen_unit (f : Clip → Clip) : (updateOpen f s).unit = s.unit := rfl
@[simp] theorem updateOpen_mem (f : Clip → Clip) : (updateOpen f s).mem = s.mem := rfl
@[simp] theorem updateOpen_busRead (f : Clip → Clip) : (updateOpen f s).busRead = s.busRead := rfl
@[simp] theorem updateOpen_freeCount (f : Clip → Clip) : (updateOpen f s).freeCount = s.freeCount := rfl
@[simp] theorem updateOpen_pending (f : Clip → Clip) : (updateOpen f s).pending = s.pending := rfl

/-! ### `updateExtent` -/

@[simp] theorem updateExtent_clock (slot : Fin 32) (place : Nat) (f : EssenceExtent → EssenceExtent) : (updateExtent slot place f s).clock = s.clock := rfl
@[simp] theorem updateExtent_lines (slot : Fin 32) (place : Nat) (f : EssenceExtent → EssenceExtent) : (updateExtent slot place f s).lines = s.lines := rfl
@[simp] theorem updateExtent_scan (slot : Fin 32) (place : Nat) (f : EssenceExtent → EssenceExtent) : (updateExtent slot place f s).scan = s.scan := rfl
@[simp] theorem updateExtent_power (slot : Fin 32) (place : Nat) (f : EssenceExtent → EssenceExtent) : (updateExtent slot place f s).power = s.power := rfl
@[simp] theorem updateExtent_zoom (slot : Fin 32) (place : Nat) (f : EssenceExtent → EssenceExtent) : (updateExtent slot place f s).zoom = s.zoom := rfl
@[simp] theorem updateExtent_focus (slot : Fin 32) (place : Nat) (f : EssenceExtent → EssenceExtent) : (updateExtent slot place f s).focus = s.focus := rfl
@[simp] theorem updateExtent_iris (slot : Fin 32) (place : Nat) (f : EssenceExtent → EssenceExtent) : (updateExtent slot place f s).iris = s.iris := rfl
@[simp] theorem updateExtent_conflict (slot : Fin 32) (place : Nat) (f : EssenceExtent → EssenceExtent) : (updateExtent slot place f s).conflict = s.conflict := rfl
@[simp] theorem updateExtent_track (slot : Fin 32) (place : Nat) (f : EssenceExtent → EssenceExtent) : (updateExtent slot place f s).track = s.track := rfl
@[simp] theorem updateExtent_shots (slot : Fin 32) (place : Nat) (f : EssenceExtent → EssenceExtent) : (updateExtent slot place f s).shots = s.shots := rfl
@[simp] theorem updateExtent_stab (slot : Fin 32) (place : Nat) (f : EssenceExtent → EssenceExtent) : (updateExtent slot place f s).stab = s.stab := rfl
@[simp] theorem updateExtent_cardA (slot : Fin 32) (place : Nat) (f : EssenceExtent → EssenceExtent) : (updateExtent slot place f s).cardA = s.cardA := rfl
@[simp] theorem updateExtent_cardB (slot : Fin 32) (place : Nat) (f : EssenceExtent → EssenceExtent) : (updateExtent slot place f s).cardB = s.cardB := rfl
@[simp] theorem updateExtent_audio (slot : Fin 32) (place : Nat) (f : EssenceExtent → EssenceExtent) : (updateExtent slot place f s).audio = s.audio := rfl
@[simp] theorem updateExtent_vf (slot : Fin 32) (place : Nat) (f : EssenceExtent → EssenceExtent) : (updateExtent slot place f s).vf = s.vf := rfl
@[simp] theorem updateExtent_cues (slot : Fin 32) (place : Nat) (f : EssenceExtent → EssenceExtent) : (updateExtent slot place f s).cues = s.cues := rfl
@[simp] theorem updateExtent_events (slot : Fin 32) (place : Nat) (f : EssenceExtent → EssenceExtent) : (updateExtent slot place f s).events = s.events := rfl
@[simp] theorem updateExtent_unit (slot : Fin 32) (place : Nat) (f : EssenceExtent → EssenceExtent) : (updateExtent slot place f s).unit = s.unit := rfl
@[simp] theorem updateExtent_mem (slot : Fin 32) (place : Nat) (f : EssenceExtent → EssenceExtent) : (updateExtent slot place f s).mem = s.mem := rfl
@[simp] theorem updateExtent_busRead (slot : Fin 32) (place : Nat) (f : EssenceExtent → EssenceExtent) : (updateExtent slot place f s).busRead = s.busRead := rfl
@[simp] theorem updateExtent_freeCount (slot : Fin 32) (place : Nat) (f : EssenceExtent → EssenceExtent) : (updateExtent slot place f s).freeCount = s.freeCount := rfl
@[simp] theorem updateExtent_pending (slot : Fin 32) (place : Nat) (f : EssenceExtent → EssenceExtent) : (updateExtent slot place f s).pending = s.pending := rfl
/-! ### The fields that the updates set -/

@[simp] theorem evalAlert_alert : (evalAlert s).events.alert = alertCondition s.events s.unit := rfl
@[simp] theorem evalAlert_latches : (evalAlert s).events.latches = s.events.latches := rfl
@[simp] theorem evalAlert_levels : (evalAlert s).events.levels = s.events.levels := rfl
@[simp] theorem setDone_done (n : Fin 32) : (setDone n s).unit.done = s.unit.done ||| slotMask n := rfl
@[simp] theorem setDone_slots (n : Fin 32) : (setDone n s).unit.slots = s.unit.slots := rfl
@[simp] theorem clearDone_done (n : Fin 32) : (clearDone n s).unit.done = s.unit.done &&& ~~~slotMask n := rfl
@[simp] theorem clearDone_slots (n : Fin 32) : (clearDone n s).unit.slots = s.unit.slots := rfl
@[simp] theorem setSlotState_slots (n : Fin 32) (st : SlotState) :
    (setSlotState n st s).unit.slots = modify s.unit.slots n fun r => { r with state := st } := rfl
@[simp] theorem useFree_freeCount (n : Nat) : (useFree n s).freeCount = s.freeCount + n := rfl
@[simp] theorem updateUnit_unit (f : SlotUnit → SlotUnit) : (updateUnit f s).unit = f s.unit := rfl
@[simp] theorem updateClock_clock (f : Clock → Clock) : (updateClock f s).clock = f s.clock := rfl
@[simp] theorem updateVf_vf (f : Viewfinder → Viewfinder) : (updateVf f s).vf = f s.vf := rfl
@[simp] theorem updateLine_lines (i : Fin 7) (f : Line → Line) :
    (updateLine i f s).lines = modify s.lines i f := rfl

/-! ### Banks -/

variable {α : Type} {n : Nat}

@[simp] theorem put_same (v : Vector α n) (i : Fin n) (x : α) : (put v i x)[i.val] = x := by simp [put]

theorem put_other (v : Vector α n) (i j : Fin n) (x : α) (h : i ≠ j) : (put v i x)[j.val] = v[j.val] := by
  have : i.val ≠ j.val := fun e => h (Fin.ext e)
  simp [put, this]

@[simp] theorem modify_same (v : Vector α n) (i : Fin n) (f : α → α) : (modify v i f)[i.val] = f v[i.val] := by
  simp [modify]

theorem modify_other (v : Vector α n) (i j : Fin n) (f : α → α) (h : i ≠ j) :
    (modify v i f)[j.val] = v[j.val] := put_other v i j _ h

@[simp] theorem mapBank_get {β : Type} (f : α → β) (v : Vector α n) (i : Nat) (h : i < n) :
    (mapBank f v)[i] = f v[i] := by simp [mapBank]

/-! ### A step on the focus outputs -/

@[simp] theorem stepTo_state (near : Bool) (f : Focus) : (f.stepTo near).state = f.state := rfl
@[simp] theorem stepTo_pos (near : Bool) (f : Focus) : (f.stepTo near).pos = f.pos := rfl
@[simp] theorem stepTo_target (near : Bool) (f : Focus) : (f.stepTo near).target = f.target := rfl
@[simp] theorem stepTo_rate (near : Bool) (f : Focus) : (f.stepTo near).rate = f.rate := rfl
@[simp] theorem stepTo_holder (near : Bool) (f : Focus) : (f.stepTo near).holder = f.holder := rfl
@[simp] theorem stepTo_host (near : Bool) (f : Focus) : (f.stepTo near).host = f.host := rfl
@[simp] theorem stepTo_refSteps (near : Bool) (f : Focus) : (f.stepTo near).refSteps = f.refSteps := rfl
@[simp] theorem stepTo_near (near : Bool) (f : Focus) : (f.stepTo near).near = f.near := rfl
@[simp] theorem stepTo_phase (near : Bool) (f : Focus) : (f.stepTo near).phase = f.phase := rfl
@[simp] theorem stepTo_stepsOut (near : Bool) (f : Focus) : (f.stepTo near).stepsOut = f.stepsOut + 1 := rfl
@[simp] theorem stepTo_stepNear (near : Bool) (f : Focus) : (f.stepTo near).stepNear = near := rfl

end Sys2Proof.Machine
end

