-- ==== Sys2Proof/Laws/Outside.lean ====
section
/-! SUPPORT. What the operations that the blocks share leave alone: the projection `outside` of the state, and one
lemma per operation. -/

set_option linter.unusedSimpArgs false

namespace Sys2Proof.Machine

/-- The parts of the state that the lens drive, the shot stack, the record engine, the media controller and the
cues never change of their own: the other blocks, main memory, the registers and queues of the slot unit, and
which slots are DONE. -/
structure Outside where
  clock : Clock
  lines : Vector Line 7
  scan : Scan
  power : Power
  stab : Stab
  audio : Audio
  vf : Viewfinder
  mem : List Host.Cell
  busRead : BusWord
  pending : List Instr
  enable : Bool
  alertLevel : Nat
  doneAlert : Bool
  workBase : BusWord
  done : BusWord
  fetchQueue : List (Fin 32)
  fetching : Option (Fin 32)
  lanes : Vector (List (Fin 32)) 7
  misuse : Nat
  finished : Vector Bool 32

/-- The slots that are DONE. -/
def finished (u : SlotUnit) : Vector Bool 32 := mapBank (fun r => r.state == .done) u.slots

/-- The parts of the state that the shared operations leave alone. -/
def outside (s : State) : Outside where
  clock := s.clock
  lines := s.lines
  scan := s.scan
  power := s.power
  stab := s.stab
  audio := s.audio
  vf := s.vf
  mem := s.mem
  busRead := s.busRead
  pending := s.pending
  enable := s.unit.enable
  alertLevel := s.unit.alertLevel
  doneAlert := s.unit.doneAlert
  workBase := s.unit.workBase
  done := s.unit.done
  fetchQueue := s.unit.fetchQueue
  fetching := s.unit.fetching
  lanes := s.unit.lanes
  misuse := s.unit.misuse
  finished := finished s.unit

/-- Writing the fields of the blocks inside leaves the outside alone. -/
theorem outside_mk (s : State) (z : Zoom) (f : Focus) (i : Iris) (c : Option Conflict) (t : Tracking)
    (h : Shots) (a b : Card) (r : Recorder) (q : Vector Cue 4) (e : Events) (n : Nat) :
    outside ⟨s.clock, s.lines, s.scan, s.power, z, f, i, c, t, h, s.stab, a, b, r, s.audio, s.vf, q, e,
      s.unit, s.mem, s.busRead, n, s.pending⟩ = outside s := rfl

/-! ### Flags, completion, free values -/

@[simp] theorem outside_evalAlert (s : State) : outside (evalAlert s) = outside s := rfl

@[simp] theorem outside_latch (c : EventClass) (s : State) : outside (latch c s) = outside s := rfl

@[simp] theorem outside_latchIf (b : Bool) (c : EventClass) (s : State) :
    outside (latchIf b c s) = outside s := by
  unfold latchIf; split <;> simp

@[simp] theorem outside_useFree (n : Nat) (s : State) : outside (useFree n s) = outside s := rfl

/-- A slot that goes from one state that is not DONE to another leaves the slots that are DONE. -/
theorem finished_setSlot (n : Fin 32) (st : SlotState) (s : State) (h : s.unit.slots[n].state ≠ .done)
    (hst : st ≠ .done) : finished (setSlotState n st s).unit = finished s.unit := by
  unfold finished
  ext i hi
  simp only [setSlotState_slots, mapBank_get]
  by_cases e : n.val = i
  · subst e
    simp only [modify_same]
    have h' : s.unit.slots[n.val].state ≠ .done := h
    rw [show (s.unit.slots[n.val].state == SlotState.done) = false from by simpa using h']
    simpa using hst
  · have := modify_other s.unit.slots n ⟨i, hi⟩ (fun r => { r with state := st }) (fun x => e (by simp [x]))
    simp only [this]

theorem outside_setSlotState (n : Fin 32) (st : SlotState) (s : State) (h : s.unit.slots[n].state ≠ .done)
    (hst : st ≠ .done) : outside (setSlotState n st s) = outside s := by
  simp only [outside, finished_setSlot n st s h hst]
  rfl

theorem not_done_of_inService {st : SlotState} (h : st.inService = true) : st ≠ .done := by
  rintro rfl; simp [SlotState.inService] at h

@[simp] theorem outside_completeWith (label : Option Label) (n : Fin 32) (status : Status) (result : List Byte)
    (s : State) : outside (completeWith label n status result s) = outside s := by
  unfold completeWith
  split
  · exact outside_setSlotState n .completing s (not_done_of_inService (by assumption)) (by decide)
  · rfl

@[simp] theorem outside_complete (n : Fin 32) (status : Status) (result : List Byte) (s : State) :
    outside (complete n status result s) = outside s := outside_completeWith ..

@[simp] theorem outside_completeFree (n : Fin 32) (status : Status) (s : State) :
    outside (completeFree n status s) = outside s := outside_completeWith ..

@[simp] theorem outside_keepRunning (n : Fin 32) (s : State) : outside (keepRunning n s) = outside s := by
  unfold keepRunning
  split
  · exact outside_setSlotState n .running s (not_done_of_inService (by assumption)) (by decide)
  · rfl

/-- A request's command leaves the outside alone when what the serving block does leaves it alone. -/
theorem outside_serve (n : Fin 32) (i : Instr) (run : State → State) (s : State)
    (h : outside (run s) = outside s) : outside (serve n i run s) = outside s := by
  unfold serve; split <;> simp [h]

/-- A fold of operations that each leave the outside alone leaves it alone. -/
theorem outside_foldl {α : Type} (f : State → α → State) (h : ∀ s x, outside (f s x) = outside s)
    (l : List α) (s : State) : outside (l.foldl f s) = outside s := by
  induction l generalizing s with
  | nil => rfl
  | cons x rest ih => rw [List.foldl_cons, ih, h]

/-- Four operations, one per cue channel, that each leave the outside alone leave it alone. -/
theorem outside_eachCue (f : Fin 4 → State → State) (h : ∀ s n, outside (f n s) = outside s) (s : State) :
    outside (eachCue f s) = outside s := outside_foldl _ h _ _

/-! ### LensBase -/

@[simp] theorem outside_deriveApplied :
    outside (deriveApplied s) = outside s := by
  unfold deriveApplied; try dsimp only
  (repeat' split) <;> (try exact rfl) <;> simp [↓outside_mk]

@[simp] theorem outside_releaseZoom :
    outside (releaseZoom s) = outside s := by
  unfold releaseZoom; try dsimp only
  (repeat' split) <;> (try exact rfl) <;> simp [↓outside_mk]

@[simp] theorem outside_updateLag :
    outside (updateLag s) = outside s := by
  unfold updateLag; try dsimp only
  (repeat' split) <;> (try exact rfl) <;> simp [↓outside_mk]

@[simp] theorem outside_aimFocus (target : Nat) :
    outside (aimFocus target s) = outside s := by
  unfold aimFocus; try dsimp only
  (repeat' split) <;> (try exact rfl) <;> simp [↓outside_mk]

@[simp] theorem outside_recomputeD (fv : Nat) :
    outside (recomputeD fv s) = outside s := by
  unfold recomputeD; try dsimp only
  (repeat' split) <;> (try exact rfl) <;> simp [↓outside_mk]

@[simp] theorem outside_endHostZoom (status : Status) :
    outside (endHostZoom status s) = outside s := by
  unfold endHostZoom; try dsimp only
  (repeat' split) <;> (try exact rfl) <;> simp [↓outside_mk]

@[simp] theorem outside_endHostFocus (status : Status) :
    outside (endHostFocus status s) = outside s := by
  unfold endHostFocus; try dsimp only
  (repeat' split) <;> (try exact rfl) <;> simp [↓outside_mk]

@[simp] theorem outside_endHostIris (status : Status) :
    outside (endHostIris status s) = outside s := by
  unfold endHostIris; try dsimp only
  (repeat' split) <;> (try exact rfl) <;> simp [↓outside_mk]

@[simp] theorem outside_stopFocus :
    outside (stopFocus s) = outside s := by
  unfold stopFocus; try dsimp only
  (repeat' split) <;> (try exact rfl) <;> simp [↓outside_mk]

@[simp] theorem outside_stopIris :
    outside (stopIris s) = outside s := by
  unfold stopIris; try dsimp only
  (repeat' split) <;> (try exact rfl) <;> simp [↓outside_mk]

@[simp] theorem outside_recordConflict (axis : LensAxis) (kind : Nat) :
    outside (recordConflict axis kind s) = outside s := by
  unfold recordConflict; try dsimp only
  (repeat' split) <;> (try exact rfl) <;> simp [↓outside_mk]

@[simp] theorem outside_cueAnswer (channel : Fin 4) (taken : Bool) :
    outside (cueAnswer channel taken s) = outside s := by
  unfold cueAnswer; try dsimp only
  (repeat' split) <;> (try exact rfl) <;> simp [↓outside_mk]

@[simp] theorem outside_shotOutcome (source : ShotSource) (status : Status) (result : List Byte) :
    outside (shotOutcome source status result s) = outside s := by
  unfold shotOutcome; try dsimp only
  (repeat' split) <;> (try exact rfl) <;> simp [↓outside_mk]

@[simp] theorem outside_withdrawClaims :
    outside (withdrawClaims s) = outside s := by
  unfold withdrawClaims; try dsimp only
  (repeat' split) <;> (try exact rfl) <;> simp [↓outside_mk]

@[simp] theorem outside_abortRecall (status : Status) :
    outside (abortRecall status s) = outside s := by
  unfold abortRecall; try dsimp only
  (repeat' split) <;> (try exact rfl) <;> simp [↓outside_mk]

@[simp] theorem outside_finishRecall (r : Recall) :
    outside (finishRecall r s) = outside s := by
  unfold finishRecall; try dsimp only
  (repeat' split) <;> (try exact rfl) <;> simp [↓outside_mk]

@[simp] theorem outside_recallSettled (axis : LensAxis) :
    outside (recallSettled axis s) = outside s := by
  unfold recallSettled; try dsimp only
  (repeat' split) <;> (try exact rfl) <;> simp [↓outside_mk]

@[simp] theorem outside_evalZoom :
    outside (evalZoom s) = outside s := by
  unfold evalZoom; try dsimp only
  (repeat' split) <;> (try exact rfl) <;> simp [↓outside_mk]

@[simp] theorem outside_reclampZoom :
    outside (reclampZoom s) = outside s := by
  unfold reclampZoom; try dsimp only
  (repeat' split) <;> (try exact rfl) <;> simp [↓outside_mk]

@[simp] theorem outside_focusArrived :
    outside (focusArrived s) = outside s := by
  unfold focusArrived; try dsimp only
  (repeat' split) <;> (try exact rfl) <;> simp [↓outside_mk]

@[simp] theorem outside_irisSettleTest :
    outside (irisSettleTest s) = outside s := by
  unfold irisSettleTest; try dsimp only
  (repeat' split) <;> (try exact rfl) <;> simp [↓outside_mk]

@[simp] theorem outside_irisStalled :
    outside (irisStalled s) = outside s := by
  unfold irisStalled; try dsimp only
  (repeat' split) <;> (try exact rfl) <;> simp [↓outside_mk]

/-! ### Lens -/

@[simp] theorem outside_takeHostZoom (slot : Fin 32) (kind : Nat) (order : ZoomOrder) (adjusted : Bool) :
    outside (takeHostZoom slot kind order adjusted s) = outside s := by
  unfold takeHostZoom; try dsimp only
  (repeat' split) <;> (try exact rfl) <;> simp [↓outside_mk]

@[simp] theorem outside_zoomMoveTaken (slot : Fin 32) (target : BitVec 16) (maxSpeed : Byte) :
    outside (zoomMoveTaken slot target maxSpeed s) = outside s := by
  unfold zoomMoveTaken; try dsimp only
  (repeat' split) <;> (try exact rfl) <;> simp [↓outside_mk]

@[simp] theorem outside_zoomSpeedTaken (slot : Fin 32) (speed : Byte) (duration : BitVec 16) :
    outside (zoomSpeedTaken slot speed duration s) = outside s := by
  unfold zoomSpeedTaken; try dsimp only
  (repeat' split) <;> (try exact rfl) <;> simp [↓outside_mk]

@[simp] theorem outside_zoomSpeedExpired :
    outside (zoomSpeedExpired s) = outside s := by
  unfold zoomSpeedExpired; try dsimp only
  (repeat' split) <;> (try exact rfl) <;> simp [↓outside_mk]

@[simp] theorem outside_zoomStalled :
    outside (zoomStalled s) = outside s := by
  unfold zoomStalled; try dsimp only
  (repeat' split) <;> (try exact rfl) <;> simp [↓outside_mk]

@[simp] theorem outside_stallScan :
    outside (stallScan s) = outside s := by
  unfold stallScan; try dsimp only
  (repeat' split) <;> (try exact rfl) <;> simp [↓outside_mk]

@[simp] theorem outside_rockerTaken (v : Int) :
    outside (rockerTaken v s) = outside s := by
  unfold rockerTaken; try dsimp only
  (repeat' split) <;> (try exact rfl) <;> simp [↓outside_mk]

@[simp] theorem outside_zoomHoldEnded :
    outside (zoomHoldEnded s) = outside s := by
  unfold zoomHoldEnded; try dsimp only
  (repeat' split) <;> (try exact rfl) <;> simp [↓outside_mk]

@[simp] theorem outside_focusMoveStarts (slot : Fin 32) (target rate : Nat) (adjusted : Bool) :
    outside (focusMoveStarts slot target rate adjusted s) = outside s := by
  unfold focusMoveStarts; try dsimp only
  (repeat' split) <;> (try exact rfl) <;> simp [↓outside_mk]

@[simp] theorem outside_focusMoveTaken (slot : Fin 32) (target : BitVec 16) (rate : Byte) :
    outside (focusMoveTaken slot target rate s) = outside s := by
  unfold focusMoveTaken; try dsimp only
  (repeat' split) <;> (try exact rfl) <;> simp [↓outside_mk]

@[simp] theorem outside_focusDeltaTaken (delta : Int) :
    outside (focusDeltaTaken delta s) = outside s := by
  unfold focusDeltaTaken; try dsimp only
  (repeat' split) <;> (try exact rfl) <;> simp [↓outside_mk]

@[simp] theorem outside_focusHoldEnded :
    outside (focusHoldEnded s) = outside s := by
  unfold focusHoldEnded; try dsimp only
  (repeat' split) <;> (try exact rfl) <;> simp [↓outside_mk]

@[simp] theorem outside_atHome :
    outside (atHome s) = outside s := by
  unfold atHome; try dsimp only
  (repeat' split) <;> (try exact rfl) <;> simp [↓outside_mk]

@[simp] theorem outside_focusHomeReport (asserted : Bool) :
    outside (focusHomeReport asserted s) = outside s := by
  unfold focusHomeReport; try dsimp only
  (repeat' split) <;> (try exact rfl) <;> simp [↓outside_mk]

@[simp] theorem outside_focusHomeRise :
    outside (focusHomeRise s) = outside s := by
  unfold focusHomeRise; try dsimp only
  (repeat' split) <;> (try exact rfl) <;> simp [↓outside_mk]

@[simp] theorem outside_referencingStep :
    outside (referencingStep s) = outside s := by
  unfold referencingStep; try dsimp only
  (repeat' split) <;> (try exact rfl) <;> simp [↓outside_mk]

@[simp] theorem outside_irisSetTaken (slot : Fin 32) (target : BitVec 16) :
    outside (irisSetTaken slot target s) = outside s := by
  unfold irisSetTaken; try dsimp only
  (repeat' split) <;> (try exact rfl) <;> simp [↓outside_mk]

@[simp] theorem outside_irisDeltaTaken (delta : Int) :
    outside (irisDeltaTaken delta s) = outside s := by
  unfold irisDeltaTaken; try dsimp only
  (repeat' split) <;> (try exact rfl) <;> simp [↓outside_mk]

@[simp] theorem outside_irisHoldEnded :
    outside (irisHoldEnded s) = outside s := by
  unfold irisHoldEnded; try dsimp only
  (repeat' split) <;> (try exact rfl) <;> simp [↓outside_mk]

@[simp] theorem outside_irisRamp :
    outside (irisRamp s) = outside s := by
  unfold irisRamp; try dsimp only
  (repeat' split) <;> (try exact rfl) <;> simp [↓outside_mk]

@[simp] theorem outside_lensFrame :
    outside (lensFrame s) = outside s := by
  unfold lensFrame; try dsimp only
  (repeat' split) <;> (try exact rfl) <;> simp [↓outside_mk]

@[simp] theorem outside_irisSample (code : Nat) :
    outside (irisSample code s) = outside s := by
  unfold irisSample; try dsimp only
  (repeat' split) <;> (try exact rfl) <;> simp [↓outside_mk]

@[simp] theorem outside_stopHostZoom (status : Status) :
    outside (stopHostZoom status s) = outside s := by
  unfold stopHostZoom; try dsimp only
  (repeat' split) <;> (try exact rfl) <;> simp [↓outside_mk]

@[simp] theorem outside_stopHostFocus (status : Status) :
    outside (stopHostFocus status s) = outside s := by
  unfold stopHostFocus; try dsimp only
  (repeat' split) <;> (try exact rfl) <;> simp [↓outside_mk]

@[simp] theorem outside_stopHostIris (status : Status) :
    outside (stopHostIris status s) = outside s := by
  unfold stopHostIris; try dsimp only
  (repeat' split) <;> (try exact rfl) <;> simp [↓outside_mk]

@[simp] theorem outside_lensStopTaken (slot : Fin 32) :
    outside (lensStopTaken slot s) = outside s := by
  unfold lensStopTaken; try dsimp only
  (repeat' split) <;> (try exact rfl) <;> simp [↓outside_mk]

@[simp] theorem outside_offerTracking (target : Nat) :
    outside (offerTracking target s) = outside s := by
  unfold offerTracking; try dsimp only
  (repeat' split) <;> (try exact rfl) <;> simp [↓outside_mk]

@[simp] theorem outside_setTrackingTaken (slot : Fin 32) (enable : Byte) :
    outside (setTrackingTaken slot enable s) = outside s := by
  unfold setTrackingTaken; try dsimp only
  (repeat' split) <;> (try exact rfl) <;> simp [↓outside_mk]

@[simp] theorem outside_loadLensTablesTaken (slot : Fin 32) (address : BitVec 32) :
    outside (loadLensTablesTaken slot address s) = outside s := by
  unfold loadLensTablesTaken; try dsimp only
  (repeat' split) <;> (try exact rfl) <;> simp [↓outside_mk]

@[simp] theorem outside_clampFocusTarget :
    outside (clampFocusTarget s) = outside s := by
  unfold clampFocusTarget; try dsimp only
  (repeat' split) <;> (try exact rfl) <;> simp [↓outside_mk]

@[simp] theorem outside_takeLensBlock (b : LensBlock) :
    outside (takeLensBlock b s) = outside s := by
  unfold takeLensBlock; try dsimp only
  (repeat' split) <;> (try exact rfl) <;> simp [↓outside_mk]

@[simp] theorem outside_lensTableRead (read : ReadEnd) :
    outside (lensTableRead read s) = outside s := by
  unfold lensTableRead; try dsimp only
  (repeat' split) <;> (try exact rfl) <;> simp [↓outside_mk]

/-! ### Shots -/

@[simp] theorem outside_keepSource (source : ShotSource) :
    outside (keepSource source s) = outside s := by
  unfold keepSource; try dsimp only
  (repeat' split) <;> (try exact rfl) <;> simp [↓outside_mk]

@[simp] theorem outside_pushTaken (source : ShotSource) :
    outside (pushTaken source s) = outside s := by
  unfold pushTaken; try dsimp only
  (repeat' split) <;> (try exact rfl) <;> simp [↓outside_mk]

@[simp] theorem outside_claimZoom (entry : Shot) :
    outside (claimZoom entry s) = outside s := by
  unfold claimZoom; try dsimp only
  (repeat' split) <;> (try exact rfl) <;> simp [↓outside_mk]

@[simp] theorem outside_claimFocus (entry : Shot) :
    outside (claimFocus entry s) = outside s := by
  unfold claimFocus; try dsimp only
  (repeat' split) <;> (try exact rfl) <;> simp [↓outside_mk]

@[simp] theorem outside_claimIris (entry : Shot) :
    outside (claimIris entry s) = outside s := by
  unfold claimIris; try dsimp only
  (repeat' split) <;> (try exact rfl) <;> simp [↓outside_mk]

@[simp] theorem outside_beginMoves (source : ShotSource) (entry : Shot) (adjusted : Bool) :
    outside (beginMoves source entry adjusted s) = outside s := by
  unfold beginMoves; try dsimp only
  (repeat' split) <;> (try exact rfl) <;> simp [↓outside_mk]

@[simp] theorem outside_recallTaken (source : ShotSource) :
    outside (recallTaken source s) = outside s := by
  unfold recallTaken; try dsimp only
  (repeat' split) <;> (try exact rfl) <;> simp [↓outside_mk]

@[simp] theorem outside_pushWritten (ok : Bool) :
    outside (pushWritten ok s) = outside s := by
  unfold pushWritten; try dsimp only
  (repeat' split) <;> (try exact rfl) <;> simp [↓outside_mk]

@[simp] theorem outside_recallRead (read : ReadEnd) :
    outside (recallRead read s) = outside s := by
  unfold recallRead; try dsimp only
  (repeat' split) <;> (try exact rfl) <;> simp [↓outside_mk]

@[simp] theorem outside_discardRead (read : ReadEnd) :
    outside (discardRead read s) = outside s := by
  unfold discardRead
  split <;> (try exact rfl) <;> simp [↓outside_mk]

@[simp] theorem outside_spillRead (read : ReadEnd) :
    outside (spillRead read s) = outside s := by
  unfold spillRead; try dsimp only
  (repeat' split) <;> (try exact rfl) <;> simp [↓outside_mk]

@[simp] theorem outside_cancelRecall :
    outside (cancelRecall s) = outside s := by
  unfold cancelRecall; try dsimp only
  (repeat' split) <;> (try exact rfl) <;> simp [↓outside_mk]

@[simp] theorem outside_shotPressed (source : PressSource) :
    outside (shotPressed source s) = outside s := by
  unfold shotPressed; try dsimp only
  (repeat' split) <;> (try exact rfl) <;> simp [↓outside_mk]

@[simp] theorem outside_shotReleased (source : PressSource) :
    outside (shotReleased source s) = outside s := by
  unfold shotReleased; try dsimp only
  (repeat' split) <;> (try exact rfl) <;> simp [↓outside_mk]

@[simp] theorem outside_shotPressLost :
    outside (shotPressLost s) = outside s := by
  unfold shotPressLost; try dsimp only
  (repeat' split) <;> (try exact rfl) <;> simp [↓outside_mk]

@[simp] theorem outside_shotPressExpired :
    outside (shotPressExpired s) = outside s := by
  unfold shotPressExpired; try dsimp only
  (repeat' split) <;> (try exact rfl) <;> simp [↓outside_mk]

@[simp] theorem outside_shotClearTaken (slot : Fin 32) :
    outside (shotClearTaken slot s) = outside s := by
  unfold shotClearTaken; try dsimp only
  (repeat' split) <;> (try exact rfl) <;> simp [↓outside_mk]

@[simp] theorem outside_setShotPolicyTaken (slot : Fin 32) (policy : Byte) :
    outside (setShotPolicyTaken slot policy s) = outside s := by
  unfold setShotPolicyTaken; try dsimp only
  (repeat' split) <;> (try exact rfl) <;> simp [↓outside_mk]

end Sys2Proof.Machine
end

