-- ==== Sys2Proof/Laws/OutsideRecord.lean ====
section
/-! SUPPORT. The media controller, the record engine and the cues leave the outside alone: one lemma per
operation. -/

set_option linter.unusedSimpArgs false

namespace Sys2Proof.Machine

/-! ### MediaBase -/

@[simp] theorem outside_setCard (c : CardSlot) (k : Card) :
    outside (setCard c k s) = outside s := by
  unfold setCard; try dsimp only
  (repeat' split) <;> (try exact rfl) <;> simp [↓outside_mk]

@[simp] theorem outside_setCardState (c : CardSlot) (st : CardState) :
    outside (setCardState c st s) = outside s := by
  unfold setCardState; try dsimp only
  (repeat' split) <;> (try exact rfl) <;> simp [↓outside_mk]

@[simp] theorem outside_checkPoint (c : CardSlot) :
    outside (checkPoint c s) = outside s := by
  unfold checkPoint; try dsimp only
  (repeat' split) <;> (try exact rfl) <;> simp [↓outside_mk]

@[simp] theorem outside_idleCheck (c : CardSlot) :
    outside (idleCheck c s) = outside s := by
  unfold idleCheck; try dsimp only
  (repeat' split) <;> (try exact rfl) <;> simp [↓outside_mk]

@[simp] theorem outside_startNext (c : CardSlot) :
    outside (startNext c s) = outside s := by
  unfold startNext; try dsimp only
  (repeat' split) <;> (try exact rfl) <;> simp [↓outside_mk]

@[simp] theorem outside_endOp (c : CardSlot) :
    outside (endOp c s) = outside s := by
  unfold endOp; try dsimp only
  (repeat' split) <;> (try exact rfl) <;> simp [↓outside_mk]

@[simp] theorem outside_beginMount (c : CardSlot) :
    outside (beginMount c s) = outside s := by
  unfold beginMount; try dsimp only
  (repeat' split) <;> (try exact rfl) <;> simp [↓outside_mk]

@[simp] theorem outside_select (c : CardSlot) :
    outside (select c s) = outside s := by
  unfold select; try dsimp only
  (repeat' split) <;> (try exact rfl) <;> simp [↓outside_mk]

@[simp] theorem outside_deselect (c : CardSlot) :
    outside (deselect c s) = outside s := by
  unfold deselect; try dsimp only
  (repeat' split) <;> (try exact rfl) <;> simp [↓outside_mk]

@[simp] theorem outside_queueExtent (c : CardSlot) (e : Extent) :
    outside (queueExtent c e s) = outside s := by
  unfold queueExtent; try dsimp only
  (repeat' split) <;> (try exact rfl) <;> simp [↓outside_mk]

@[simp] theorem outside_indexRequest (c : CardSlot) (r : IndexRecord) :
    outside (indexRequest c r s) = outside s := by
  unfold indexRequest; try dsimp only
  (repeat' split) <;> (try exact rfl) <;> simp [↓outside_mk]

/-! ### Record -/

@[simp] theorem outside_updateOpen (f : Clip → Clip) :
    outside (updateOpen f s) = outside s := by
  unfold updateOpen; try dsimp only
  (repeat' split) <;> (try exact rfl) <;> simp [↓outside_mk]

@[simp] theorem outside_setTarget (c : CardSlot) (on : Bool) :
    outside (setTarget c on s) = outside s := by
  unfold setTarget; try dsimp only
  (repeat' split) <;> (try exact rfl) <;> simp [↓outside_mk]

@[simp] theorem outside_setRecState (st : RecState) :
    outside (setRecState st s) = outside s := by
  unfold setRecState; try dsimp only
  (repeat' split) <;> (try exact rfl) <;> simp [↓outside_mk]

@[simp] theorem outside_updateExtent (slot : Fin 32) (place : Nat) (f : EssenceExtent → EssenceExtent) :
    outside (updateExtent slot place f s) = outside s := by
  unfold updateExtent; try dsimp only
  (repeat' split) <;> (try exact rfl) <;> simp [↓outside_mk]

@[simp] theorem outside_finishEssence (slot : Fin 32) :
    outside (finishEssence slot s) = outside s := by
  unfold finishEssence; try dsimp only
  (repeat' split) <;> (try exact rfl) <;> simp [↓outside_mk]

@[simp] theorem outside_settle (otherwise : ExtentOutcome) (slot : Fin 32) (place : Nat) :
    outside (settle otherwise slot place s) = outside s := by
  unfold settle; try dsimp only
  (repeat' split) <;> (try exact rfl) <;> simp [↓outside_mk]

@[simp] theorem outside_discardAll (l : List Extent) :
    outside (discardAll l s) = outside s := outside_foldl _ (fun _ _ => by simp) _ _

@[simp] theorem outside_settleBySides (slot : Fin 32) (place : Nat) :
    outside (settleBySides slot place s) = outside s := by
  unfold settleBySides; try dsimp only
  (repeat' split) <;> (try exact rfl) <;> simp [↓outside_mk]

@[simp] theorem outside_setSide (c : CardSlot) (side : Side) (slot : Fin 32) (place : Nat) :
    outside (setSide c side slot place s) = outside s := by
  unfold setSide; try dsimp only
  (repeat' split) <;> (try exact rfl) <;> simp [↓outside_mk]

@[simp] theorem outside_keepHeld (l : List Extent) :
    outside (keepHeld l s) = outside s := by
  unfold keepHeld; try dsimp only
  (repeat' split) <;> (try exact rfl) <;> simp [↓outside_mk]

@[simp] theorem outside_toIdle :
    outside (toIdle s) = outside s := by
  unfold toIdle; try dsimp only
  (repeat' split) <;> (try exact rfl) <;> simp [↓outside_mk]

@[simp] theorem outside_trimAfter :
    outside (trimAfter s) = outside s := by
  unfold trimAfter; try dsimp only
  (repeat' split) <;> (try exact rfl) <;> simp [↓outside_mk]

@[simp] theorem outside_addMark (kind : MarkKind) (detail : Option Nat) :
    outside (addMark kind detail s) = outside s := by
  unfold addMark; try dsimp only
  (repeat' split) <;> (try exact rfl) <;> simp [↓outside_mk]

@[simp] theorem outside_degrade (c : CardSlot) :
    outside (degrade c s) = outside s := by
  unfold degrade; try dsimp only
  (repeat' split) <;> (try exact rfl) <;> simp [↓outside_mk]

@[simp] theorem outside_answerStart (source : StartSource) (status : Status) (result : List Byte) :
    outside (answerStart source status result s) = outside s := by
  unfold answerStart; try dsimp only
  (repeat' split) <;> (try exact rfl) <;> simp [↓outside_mk]

@[simp] theorem outside_endStart (status : Status) (result : List Byte) :
    outside (endStart status result s) = outside s := by
  unfold endStart; try dsimp only
  (repeat' split) <;> (try exact rfl) <;> simp [↓outside_mk]

@[simp] theorem outside_keepStart (source : StartSource) :
    outside (keepStart source s) = outside s := by
  unfold keepStart; try dsimp only
  (repeat' split) <;> (try exact rfl) <;> simp [↓outside_mk]

@[simp] theorem outside_startTaken (source : StartSource) :
    outside (startTaken source s) = outside s := by
  unfold startTaken; try dsimp only
  (repeat' split) <;> (try exact rfl) <;> simp [↓outside_mk]

@[simp] theorem outside_clearRestart (status : Status) :
    outside (clearRestart status s) = outside s := by
  unfold clearRestart; try dsimp only
  (repeat' split) <;> (try exact rfl) <;> simp [↓outside_mk]

@[simp] theorem outside_abandonArming (status : Status) :
    outside (abandonArming status s) = outside s := by
  unfold abandonArming; try dsimp only
  (repeat' split) <;> (try exact rfl) <;> simp [↓outside_mk]

@[simp] theorem outside_stopGiven (reason : StopReason) :
    outside (stopGiven reason s) = outside s := by
  unfold stopGiven; try dsimp only
  (repeat' split) <;> (try exact rfl) <;> simp [↓outside_mk]

@[simp] theorem outside_endStopRequest (status : Status) (result : List Byte) :
    outside (endStopRequest status result s) = outside s := by
  unfold endStopRequest; try dsimp only
  (repeat' split) <;> (try exact rfl) <;> simp [↓outside_mk]

@[simp] theorem outside_recStopTaken (slot : Fin 32) :
    outside (recStopTaken slot s) = outside s := by
  unfold recStopTaken; try dsimp only
  (repeat' split) <;> (try exact rfl) <;> simp [↓outside_mk]

@[simp] theorem outside_pressActs :
    outside (pressActs s) = outside s := by
  unfold pressActs; try dsimp only
  (repeat' split) <;> (try exact rfl) <;> simp [↓outside_mk]

@[simp] theorem outside_recPressed :
    outside (recPressed s) = outside s := by
  unfold recPressed; try dsimp only
  (repeat' split) <;> (try exact rfl) <;> simp [↓outside_mk]

@[simp] theorem outside_recPowerEmpty :
    outside (recPowerEmpty s) = outside s := by
  unfold recPowerEmpty; try dsimp only
  (repeat' split) <;> (try exact rfl) <;> simp [↓outside_mk]

@[simp] theorem outside_recPowerNotice (old new : PowerState) :
    outside (recPowerNotice old new s) = outside s := by
  unfold recPowerNotice; try dsimp only
  (repeat' split) <;> (try exact rfl) <;> simp [↓outside_mk]

@[simp] theorem outside_dropTarget (c : CardSlot) :
    outside (dropTarget c s) = outside s := by
  unfold dropTarget; try dsimp only
  (repeat' split) <;> (try exact rfl) <;> simp [↓outside_mk]

@[simp] theorem outside_breakClip :
    outside (breakClip s) = outside s := by
  unfold breakClip; try dsimp only
  (repeat' split) <;> (try exact rfl) <;> simp [↓outside_mk]

@[simp] theorem outside_closeToIdle :
    outside (closeToIdle s) = outside s := by
  unfold closeToIdle; try dsimp only
  (repeat' split) <;> (try exact rfl) <;> simp [↓outside_mk]

@[simp] theorem outside_afterClose :
    outside (afterClose s) = outside s := by
  unfold afterClose; try dsimp only
  (repeat' split) <;> (try exact rfl) <;> simp [↓outside_mk]

@[simp] theorem outside_closeClip :
    outside (closeClip s) = outside s := by
  unfold closeClip; try dsimp only
  (repeat' split) <;> (try exact rfl) <;> simp [↓outside_mk]

@[simp] theorem outside_closeIfIndexed :
    outside (closeIfIndexed s) = outside s := by
  unfold closeIfIndexed; try dsimp only
  (repeat' split) <;> (try exact rfl) <;> simp [↓outside_mk]

@[simp] theorem outside_setAwait (c : CardSlot) (on : Bool) :
    outside (setAwait c on s) = outside s := by
  unfold setAwait; try dsimp only
  (repeat' split) <;> (try exact rfl) <;> simp [↓outside_mk]

@[simp] theorem outside_recordIndexAnswer (c : CardSlot) (lost : Bool) :
    outside (recordIndexAnswer c lost s) = outside s := by
  unfold recordIndexAnswer; try dsimp only
  (repeat' split) <;> (try exact rfl) <;> simp [↓outside_mk]

@[simp] theorem outside_indexAnswered (c : CardSlot) (lost : Bool) :
    outside (indexAnswered c lost s) = outside s := by
  unfold indexAnswered; try dsimp only
  (repeat' split) <;> (try exact rfl) <;> simp [↓outside_mk]

@[simp] theorem outside_requestIndex (c : CardSlot) (owed : Bool) (k : Clip) :
    outside (requestIndex c owed k s) = outside s := by
  unfold requestIndex; try dsimp only
  (repeat' split) <;> (try exact rfl) <;> simp [↓outside_mk]

@[simp] theorem outside_drainIfDone :
    outside (drainIfDone s) = outside s := by
  unfold drainIfDone; try dsimp only
  (repeat' split) <;> (try exact rfl) <;> simp [↓outside_mk]

@[simp] theorem outside_openSpan (c : CardSlot) :
    outside (openSpan c s) = outside s := by
  unfold openSpan; try dsimp only
  (repeat' split) <;> (try exact rfl) <;> simp [↓outside_mk]

@[simp] theorem outside_extentQueued (c : CardSlot) (e : Extent) (first : Nat) :
    outside (extentQueued c e first s) = outside s := by
  unfold extentQueued; try dsimp only
  (repeat' split) <;> (try exact rfl) <;> simp [↓outside_mk]

@[simp] theorem outside_tryQueue (c : CardSlot) (e : Extent) (s : State) :
    outside (tryQueue c e s).2 = outside s := by
  unfold tryQueue; dsimp only
  split <;> simp

@[simp] theorem outside_relayFrom (c : CardSlot) :
    outside (relayFrom c s) = outside s := by
  unfold relayFrom; try dsimp only
  (repeat' split) <;> (try exact rfl) <;> simp [↓outside_mk]

@[simp] theorem outside_relayFull (c : CardSlot) (e : Extent) :
    outside (relayFull c e s) = outside s := by
  unfold relayFull; try dsimp only
  (repeat' split) <;> (try exact rfl) <;> simp [↓outside_mk]

@[simp] theorem outside_failSide (c : CardSlot) (e : Extent) :
    outside (failSide c e s) = outside s := by
  unfold failSide; try dsimp only
  (repeat' split) <;> (try exact rfl) <;> simp [↓outside_mk]

@[simp] theorem outside_failAll (c : CardSlot) (l : List Extent) :
    outside (failAll c l s) = outside s := outside_foldl _ (fun _ _ => by simp) _ _

@[simp] theorem outside_requeueAll (lost : CardSlot) (l : List Extent) :
    outside (requeueAll lost l s) = outside s := by
  induction l generalizing s with
  | nil => rfl
  | cons e rest ih =>
    unfold requeueAll; dsimp only
    split <;> simp [ih]

@[simp] theorem outside_lostElsewhere (c : CardSlot) (returned : List Extent) :
    outside (lostElsewhere c returned s) = outside s := by
  unfold lostElsewhere; try dsimp only
  (repeat' split) <;> (try exact rfl) <;> simp [↓outside_mk]

@[simp] theorem outside_loseClip (c : CardSlot) (returned : List Extent) :
    outside (loseClip c returned s) = outside s := by
  unfold loseClip; try dsimp only
  (repeat' split) <;> (try exact rfl) <;> simp [↓outside_mk]

@[simp] theorem outside_lostInRelay (c : CardSlot) (returned : List Extent) :
    outside (lostInRelay c returned s) = outside s := by
  unfold lostInRelay; try dsimp only
  (repeat' split) <;> (try exact rfl) <;> simp [↓outside_mk, outside_foldl]

@[simp] theorem outside_lostInMirror (c : CardSlot) (returned : List Extent) :
    outside (lostInMirror c returned s) = outside s := by
  unfold lostInMirror; try dsimp only
  (repeat' split) <;> (try exact rfl) <;> simp [↓outside_mk]

@[simp] theorem outside_cardLost (c : CardSlot) (returned : List Extent) :
    outside (cardLost c returned s) = outside s := by
  unfold cardLost; try dsimp only
  (repeat' split) <;> (try exact rfl) <;> simp [↓outside_mk]

@[simp] theorem outside_mirrorQueue (c : CardSlot) (e : Extent) :
    outside (mirrorQueue c e s) = outside s := by
  unfold mirrorQueue; try dsimp only
  (repeat' split) <;> (try exact rfl) <;> simp [↓outside_mk]

@[simp] theorem outside_handOver (e : Extent) :
    outside (handOver e s) = outside s := by
  unfold handOver; try dsimp only
  (repeat' split) <;> (try exact rfl) <;> simp [↓outside_mk]

@[simp] theorem outside_creditSpan (c : CardSlot) (record : Option Nat) (blocks : Nat) :
    outside (creditSpan c record blocks s) = outside s := by
  unfold creditSpan; try dsimp only
  (repeat' split) <;> (try exact rfl) <;> simp [↓outside_mk]

@[simp] theorem outside_extentAnswered (c : CardSlot) (entry : QueueEntry) (written : Bool) :
    outside (extentAnswered c entry written s) = outside s := by
  unfold extentAnswered; try dsimp only
  (repeat' split) <;> (try exact rfl) <;> simp [↓outside_mk]

@[simp] theorem outside_openOn (cards : List CardSlot) (label : Label) :
    outside (openOn cards label s) = outside s := by
  unfold openOn; dsimp only
  have joined (f : State) : outside (cards.foldl (fun s c => setTarget c true s) f) = outside f :=
    outside_foldl _ (fun _ _ => by simp) _ _
  have handed (l : List Extent) (f : State) : outside (l.foldl (fun s e => handOver e s) f) = outside f :=
    outside_foldl _ (fun _ _ => by simp) _ _
  simp only [outside_endStart, handed, outside_setRecState]
  split
  · simp only [outside_degrade]; exact (joined _).trans rfl
  · exact (joined _).trans rfl

@[simp] theorem outside_clipOpens (label : Label) :
    outside (clipOpens label s) = outside s := by
  unfold clipOpens
  split
  · simp
  · simp only [outside_openOn]
    exact outside_foldl _ (fun _ _ => by simp) _ _

@[simp] theorem outside_extentArrives (e : Extent) :
    outside (extentArrives e s) = outside s := by
  unfold extentArrives; try dsimp only
  (repeat' split) <;> (try exact rfl) <;> simp [↓outside_mk]

@[simp] theorem outside_writeEssenceTaken (slot : Fin 32) (extents : List ExtentParam) :
    outside (writeEssenceTaken slot extents s) = outside s := by
  unfold writeEssenceTaken; dsimp only
  split
  · refine (outside_foldl _ (fun _ _ => by simp) _ _).trans ?_
    simp [↓outside_mk]
  · simp

@[simp] theorem outside_clearHaltTaken (slot : Fin 32) :
    outside (clearHaltTaken slot s) = outside s := by
  unfold clearHaltTaken; try dsimp only
  (repeat' split) <;> (try exact rfl) <;> simp [↓outside_mk]

@[simp] theorem outside_markRequestTaken (slot : Fin 32) (kind detail : Byte) :
    outside (markRequestTaken slot kind detail s) = outside s := by
  unfold markRequestTaken; try dsimp only
  (repeat' split) <;> (try exact rfl) <;> simp [↓outside_mk]

@[simp] theorem outside_setRecModeTaken (slot : Fin 32) (mode preferred : Byte) (limit bitrate : BitVec 16) :
    outside (setRecModeTaken slot mode preferred limit bitrate s) = outside s := by
  unfold setRecModeTaken; try dsimp only
  (repeat' split) <;> (try exact rfl) <;> simp [↓outside_mk]

@[simp] theorem outside_listClipsTaken (slot : Fin 32) (start : Byte) :
    outside (listClipsTaken slot start s) = outside s := by
  unfold listClipsTaken; try dsimp only
  (repeat' split) <;> (try exact rfl) <;> simp [↓outside_mk]

@[simp] theorem outside_recFormatNotice :
    outside (recFormatNotice s) = outside s := by
  unfold recFormatNotice; try dsimp only
  (repeat' split) <;> (try exact rfl) <;> simp [↓outside_mk]

@[simp] theorem outside_recTcModeNotice :
    outside (recTcModeNotice s) = outside s := by
  unfold recTcModeNotice; try dsimp only
  (repeat' split) <;> (try exact rfl) <;> simp [↓outside_mk]

@[simp] theorem outside_takeLastClip (n : Nat) :
    outside (takeLastClip n s) = outside s := by
  unfold takeLastClip; try dsimp only
  (repeat' split) <;> (try exact rfl) <;> simp [↓outside_mk]

@[simp] theorem outside_cardErased (c : CardSlot) :
    outside (cardErased c s) = outside s := by
  unfold cardErased; try dsimp only
  (repeat' split) <;> (try exact rfl) <;> simp [↓outside_mk]

/-! ### Media -/

@[simp] theorem outside_writeError (c : CardSlot) :
    outside (writeError c s) = outside s := by
  unfold writeError; try dsimp only
  (repeat' split) <;> (try exact rfl) <;> simp [↓outside_mk]

@[simp] theorem outside_endFormat (c : CardSlot) (status : Status) :
    outside (endFormat c status s) = outside s := by
  unfold endFormat; try dsimp only
  (repeat' split) <;> (try exact rfl) <;> simp [↓outside_mk]

@[simp] theorem outside_loseIndex (c : CardSlot) : outside (loseIndex c s) = outside s := by
  unfold loseIndex; try dsimp only
  (repeat' split) <;> (try exact rfl) <;> simp [↓outside_mk]

@[simp] theorem outside_loseFormat (c : CardSlot) : outside (loseFormat c s) = outside s := by
  unfold loseFormat; try dsimp only
  (repeat' split) <;> (try exact rfl) <;> simp [↓outside_mk]

@[simp] theorem outside_clearCard (c : CardSlot) : outside (clearCard c s) = outside s := by
  unfold clearCard; try dsimp only
  (repeat' split) <;> (try exact rfl) <;> simp [↓outside_mk]

@[simp] theorem outside_removeCard (c : CardSlot) :
    outside (removeCard c s) = outside s := by
  unfold removeCard; try dsimp only
  (repeat' split) <;> (try exact rfl) <;> simp [↓outside_mk]

@[simp] theorem outside_insertCard (c : CardSlot) :
    outside (insertCard c s) = outside s := by
  unfold insertCard; try dsimp only
  (repeat' split) <;> (try exact rfl) <;> simp [↓outside_mk]

@[simp] theorem outside_linkEnd (c : CardSlot) (kind : LinkOpKind) (act : State → State) (h : ∀ s, outside (act s) = outside s) :
    outside (linkEnd c kind act s) = outside s := by
  unfold linkEnd
  (repeat' split) <;> simp [h]

@[simp] theorem outside_headerAnswered (c : CardSlot) (answer : HeaderAnswer) :
    outside (headerAnswered c answer s) = outside s := by
  unfold headerAnswered; try dsimp only
  (repeat' split) <;> (try exact rfl) <;> simp [↓outside_mk]

@[simp] theorem outside_writeDone (c : CardSlot) (written : Bool) :
    outside (writeDone c written s) = outside s := by
  unfold writeDone; try dsimp only
  (repeat' split) <;> (try exact rfl) <;> simp [↓outside_mk]

@[simp] theorem outside_blockAnswered (c : CardSlot) (answer : CardAnswer) :
    outside (blockAnswered c answer s) = outside s := by
  unfold blockAnswered; try dsimp only
  (repeat' split) <;> (try exact rfl) <;> simp [↓outside_mk]

@[simp] theorem outside_indexWriteAnswered (c : CardSlot) (answer : CardAnswer) :
    outside (indexWriteAnswered c answer s) = outside s := by
  unfold indexWriteAnswered; try dsimp only
  (repeat' split) <;> (try exact rfl) <;> simp [↓outside_mk]

@[simp] theorem outside_formatAnswered (c : CardSlot) (answer : CardAnswer) :
    outside (formatAnswered c answer s) = outside s := by
  unfold formatAnswered; try dsimp only
  (repeat' split) <;> (try exact rfl) <;> simp [↓outside_mk]

@[simp] theorem outside_linkTimedOut (c : CardSlot) :
    outside (linkTimedOut c s) = outside s := by
  unfold linkTimedOut; try dsimp only
  (repeat' split) <;> (try exact rfl) <;> simp [↓outside_mk]

@[simp] theorem outside_formatStarts (slot : Fin 32) (c : CardSlot) :
    outside (formatStarts slot c s) = outside s := by
  unfold formatStarts; try dsimp only
  (repeat' split) <;> (try exact rfl) <;> simp [↓outside_mk]

@[simp] theorem outside_formatCardTaken (slot : Fin 32) (code : Byte) :
    outside (formatCardTaken slot code s) = outside s := by
  unfold formatCardTaken; try dsimp only
  (repeat' split) <;> (try exact rfl) <;> simp [↓outside_mk]

/-! ### Cues -/

@[simp] theorem outside_deliverAction (n : Fin 4) (action : CueAction) :
    outside (deliverAction n action s) = outside s := by
  unfold deliverAction; try dsimp only
  (repeat' split) <;> (try exact rfl) <;> simp [↓outside_mk]

@[simp] theorem outside_fireCue (n : Fin 4) :
    outside (fireCue n s) = outside s := by
  unfold fireCue; try dsimp only
  (repeat' split) <;> (try exact rfl) <;> simp [↓outside_mk]

@[simp] theorem outside_cuesFrame (label : Label) :
    outside (cuesFrame label s) = outside s := by
  unfold cuesFrame
  exact outside_eachCue _ (fun _ _ => by split <;> simp) _

@[simp] theorem outside_sampleCue (value q : Nat) (n : Fin 4) :
    outside (sampleCue value q n s) = outside s := by
  unfold sampleCue; try dsimp only
  (repeat' split) <;> (try exact rfl) <;> simp [↓outside_mk]

@[simp] theorem outside_zoomCues (z : Nat) :
    outside (zoomCues z s) = outside s := by
  unfold zoomCues
  exact outside_eachCue _ (fun _ _ => by split <;> simp) _

@[simp] theorem outside_focusCues (p : Nat) :
    outside (focusCues p s) = outside s := by
  unfold focusCues
  exact outside_eachCue _ (fun _ _ => by split <;> simp) _

@[simp] theorem outside_clearClipFlags :
    outside (clearClipFlags s) = outside s := by
  unfold clearClipFlags; try dsimp only
  (repeat' split) <;> (try exact rfl) <;> simp [↓outside_mk]

@[simp] theorem outside_reportFrames (frames : Nat) :
    outside (reportFrames frames s) = outside s := by
  unfold reportFrames
  exact outside_eachCue _ (fun _ _ => by split <;> simp [↓outside_mk]) _

@[simp] theorem outside_stopTakesEffect (reason : StopReason) :
    outside (stopTakesEffect reason s) = outside s := by
  unfold stopTakesEffect; try dsimp only
  (repeat' split) <;> (try exact rfl) <;> simp [↓outside_mk]

@[simp] theorem outside_countFrame :
    outside (countFrame s) = outside s := by
  unfold countFrame; try dsimp only
  (repeat' split) <;> (try exact rfl) <;> simp [↓outside_mk]

@[simp] theorem outside_openAtFrame (label : Label) :
    outside (openAtFrame label s) = outside s := by
  unfold openAtFrame; try dsimp only
  (repeat' split) <;> (try exact rfl) <;> simp [↓outside_mk]

@[simp] theorem outside_movingStep (p : Nat) :
    outside (movingStep p s) = outside s := by
  unfold movingStep; try dsimp only
  (repeat' split) <;> (try exact rfl) <;> simp [↓outside_mk]

@[simp] theorem outside_focusStepTaken :
    outside (focusStepTaken s) = outside s := by
  unfold focusStepTaken; try dsimp only
  (repeat' split) <;> (try exact rfl) <;> simp [↓outside_mk]

@[simp] theorem outside_setCueTaken (slot : Fin 32) (p : CueParam) :
    outside (setCueTaken slot p s) = outside s := by
  unfold setCueTaken; try dsimp only
  (repeat' split) <;> (try exact rfl) <;> simp [↓outside_mk]

end Sys2Proof.Machine
end

