-- ==== Sys2Proof/Tests/Slice0.lean ====
section
/-! SUPPORT. Our own tests: refused ill-formed commands, the reading of request bytes, worked examples of the spec,
and for each statement concrete states and operands that meet its hypotheses. -/

namespace Sys2Proof.Tests

open Sys2Proof Sys2Proof.Machine

-- One theorem at a time: the kernel evaluations below would otherwise each hold a thread.
set_option Elab.async false

/-! ### Ill-formed commands are refused -/

theorem test_wf_fetch_length : Instr.wellFormed (.fetchEnd (.data 1 2 [0]) .ok) = false := by decide
theorem test_wf_levels : Instr.wellFormed (.setEventLevels 0 [1]) = false := by decide
theorem test_wf_order : Instr.wellFormed (.frameStart [.record, .record, .lens, .page, .cues, .clock]) = false := by
  decide
theorem test_wf_lines : Instr.wellFormed (.setLines 0 []) = false := by decide
theorem test_wf_lens_read : Instr.wellFormed (.lensTableReadEnd (.data [0])) = false := by decide
theorem test_wf_spill_read : Instr.wellFormed (.spillReadEnd (.data [])) = false := by decide
theorem test_wf_header : Instr.wellFormed (.headerReadEnd .a (.header (2 ^ 32) 0 0 0)) = false := by decide
theorem test_wf_extents : Instr.wellFormed (.writeEssence 0 (List.replicate 256 ⟨0, 1, 1⟩)) = false := by
  decide +kernel
theorem test_wf_audio : Instr.wellFormed (.audioConfig 0 []) = false := by decide
theorem test_wf_text : Instr.wellFormed (.setVfText 0 0 []) = false := by decide
theorem test_wf_well_formed : Instr.wellFormed (.fetchEnd (.data 0x0A 1 [5]) .ok) = true := by decide

/-! ### Request bytes, written out from section 11.5 -/

theorem test_bytes_zoom_move : decodeRequest 2 0x10 3 [0x34, 0x12, 0x40] = some (.zoomMove 2 0x1234 0x40) := by decide
theorem test_bytes_set_tc : decodeRequest 0 0x05 4 [10, 20, 30, 5] = some (.setTc 0 10 20 30 5) := by decide
theorem test_bytes_stab_params : decodeRequest 1 0x21 9 [1, 0, 2, 0, 3, 4, 0, 5, 0]
    = some (.stabParams 1 1 2 3 4 5) := by decide
theorem test_bytes_rec_mode : decodeRequest 0 0x32 6 [1, 0, 0x58, 0x02, 100, 0]
    = some (.setRecMode 0 1 0 600 100) := by decide
theorem test_bytes_essence : decodeRequest 4 0x38 11 [1, 0, 0, 1, 0, 0, 0, 2, 0, 25, 0]
    = some (.writeEssence 4 [⟨0x10000, 0x20000, 25⟩]) := by decide
theorem test_bytes_audio_levels : decodeRequest 0 0x41 8 [30, 0xFE, 0xFF, 0xFC, 0xFF, 0xD8, 0xFF, 96]
    = some (.audioLevels 0 30 (-2) (-4) (-40) 96) := by decide
theorem test_bytes_vf_config : decodeRequest 0 0x49 1 [0x3A] = some (.setVfConfig 0 0x3A) := by decide
theorem test_bytes_unknown_kind : decodeRequest 0 0x37 0 [] = none := by decide
theorem test_bytes_wrong_length : decodeRequest 0 0x0A 2 [5, 0] = none := by decide

/-! ### Worked examples of the spec -/

/-- R137's table: peaks 0, 1 and 8,388,607. -/
theorem test_meter_levels : meterLevel 0 = -300 ∧ meterLevel 1 = -276 ∧ meterLevel 8388607 = -1 := by decide +kernel

/-- R11: in drop mode 00:09:59:29 is followed by 00:10:00:00 and 00:00:59:29 by 00:01:00:02. -/
theorem test_drop_frames : addFrames .r2997 true ⟨0, 0, 59, 29⟩ 1 = ⟨0, 1, 0, 2⟩
    ∧ addFrames .r2997 true ⟨0, 9, 59, 29⟩ 1 = ⟨0, 10, 0, 0⟩
    ∧ addFrames .r25 false ⟨23, 59, 59, 24⟩ 1 = ⟨0, 0, 0, 0⟩ := by decide +kernel

/-- R13: frames per day at 25, and at 29.97 in drop mode. -/
theorem test_frames_per_day : framesPerDay .r25 false = 2160000 ∧ framesPerDay .r2997 true = 2589408 := by decide

/-- R38: the wide end, the tele end and a point beyond it. -/
theorem test_zoom_of : zoomOf { Zoom.powerOn with wide := 100, tele := 4000 } 100 = 0
    ∧ zoomOf { Zoom.powerOn with wide := 100, tele := 4000 } 4000 = 4095
    ∧ zoomOf { Zoom.powerOn with wide := 100, tele := 4000 } 4095 = 4095 := by decide

/-- R5: the correction is bounded by 54 ticks. -/
theorem test_slew : slewOf 431 = 53 ∧ slewOf 5000 = 54 ∧ slewOf (-17) = -2 := by decide

/-- The two-request round trip of section 11.5's bytes for a text of 24 characters. -/
theorem test_round_trip_text : decodeRequest 7 0x48 25 (3 :: List.replicate 24 0x41)
    = some (.setVfText 7 3 (List.replicate 24 0x41)) := by decide +kernel

/-! ### States for the witnesses -/

/-- A state in which slot 0 holds a request that has been started. -/
def asked (i : Instr) (s : State) : State :=
  { s with unit := { s.unit with slots := put s.unit.slots 0 ⟨.started, some i⟩ } }

/-- A state in which slot 5 holds a request that its block has taken. -/
def taken (i : Instr) (s : State) : State :=
  { s with unit := { s.unit with slots := put s.unit.slots 5 ⟨.running, some i⟩ } }

/-- A state with a given slot in a given state. -/
def slotIn (n : Fin 32) (x : Slot) (s : State) : State :=
  { s with unit := { s.unit with slots := put s.unit.slots n x } }

/-- A state with a record engine changed by `f`. -/
def rec (f : Recorder → Recorder) (s : State) : State := { s with recorder := f s.recorder }

/-- A state with a viewfinder changed by `f`. -/
def vf (f : Viewfinder → Viewfinder) (s : State) : State := { s with vf := f s.vf }

/-- A card that is ready for recording. -/
def readyCard : Card := { Card.powerOn with state := .ready, capacity := 4096 }

/-- A clip in progress. -/
def someClip (st : ClipState) : Clip :=
  ⟨0, 7, st, ⟨1, 2, 3, 4⟩, none, 100, [⟨.a, none, 0⟩], [], false, false, false, false, false, false, none⟩

/-- A state in REC with that clip. -/
def recording (s : State) : State :=
  rec (fun r => { r with state := .recording, clips := [someClip .opened], targetA := true }) s

/-- A state whose lens setting is complete. -/
def lensReady (s : State) : State :=
  { s with
    zoom := { s.zoom with z := some 1000 }
    focus := { s.focus with state := .idle, pos := some 500, target := 500 }
    iris := { s.iris with pos := some 100, command := some 100, target := some 100 } }

/-- A shot away from that setting on every axis. -/
def someShot : Shot := ⟨2000, 900, 5, 30, true⟩

/-- A lens table block that passes every check. -/
def goodBlock : List Byte :=
  (List.range 17).flatMap (fun k => field32 (1000 + k : Nat))
    ++ (List.range 153).flatMap (fun i => field16 (10 * (i / 17) : Nat))
    ++ field16 0 ++ field16 4000 ++ field16 0 ++ field16 4095 ++ field16 8191

/-- The state after reset. -/
abbrev start : State := State.reset

/-! ### Witnesses: the machine as a whole -/

theorem witness_IdleStepRunsWhatIsDue : start.pending = [] ∧ dueCommand start = none
    ∧ dueCommand { start with scan := { start.scan with due := true } } = some .scanFrameStart
    ∧ (let h (o : ZoomOrder) : State := { start with
          zoom := { start.zoom with host := some ⟨5, o, false⟩ }
          vf := { start.vf with zoomHold := .timing 1, build := .building 1 }
          cardA := { start.cardA with op := some ⟨.blockWrite, 1, 1, none, true⟩ } }
      dueCommand (h (.speed 9 1)) = none ∧ dueCommand (h (.move 9 1)) = none ∧ (h (.move 9 1)).pending = []) := by
  decide +kernel

theorem witness_EveryCommandAnswersNext : ∃ t, exec .eventsRead start = .next t
    ∧ (∀ r w, Instr.eventsRead ≠ .fetchEnd r w) ∧ (∀ w, Instr.eventsRead ≠ .completionWritesEnd w)
    ∧ ∀ w, Instr.eventsRead ≠ .spillWriteEnd w := ⟨_, rfl, nofun, nofun, nofun⟩

theorem witness_RequestBytesRoundTrip : Instr.wellFormed (.setVfText 3 24 (List.replicate 24 0x41)) = true
    ∧ requestParts (.setVfText 3 24 (List.replicate 24 0x41))
        = some (3, .setVfText, 24 :: List.replicate 24 0x41)
    ∧ (24 :: List.replicate 24 (0x41 : Byte)).length ≤ 256 := by decide +kernel

theorem witness_MemoryStaysCanonical : Memory.wf [(6, 1), (7, 0)] = true
    ∧ ∃ t, step { start with mem := [(6, 1), (7, 0)] } = .next t := ⟨by decide, _, rfl⟩

/-- A consistent slot unit: slot 1 DONE with its bit, slot 2 to be fetched. -/
theorem witness_SlotsStayConsistent :
    let s := slotIn 2 ⟨.posted, none⟩ (slotIn 1 ⟨.done, none⟩
      { start with unit := { start.unit with done := 2, fetchQueue := [2] } })
    s.SlotsConsistent ∧ ∃ t, step s = .next t := by
  refine ⟨⟨by decide +kernel, by decide +kernel, by decide +kernel, ?_, ?_, by decide +kernel,
    by decide +kernel⟩, _, rfl⟩
  · intro l n hn
    cases l <;> exact absurd hn (by simp [slotIn, start, State.reset, SlotUnit.powerOn])
  · intro l
    cases l <;> simp [slotIn, start, State.reset, SlotUnit.powerOn]

theorem witness_AlertStaysTrue : start.AlertFollows ∧ ∃ t, step start = .next t := by
  refine ⟨?_, _, rfl⟩
  unfold State.AlertFollows
  decide +kernel

/-- A preset is pending at the label that drop mode keeps. -/
theorem witness_LabelsStayValid :
    let c : Clock := { start.clock with
      rate := .r2997, drop := true, label := ⟨23, 59, 59, 29⟩, preset := some ⟨⟨0, 1, 0, 2⟩, 3, true⟩ }
    c.LabelsValid ∧ (c.preset ≠ none → ∀ n r d, Instr.frameStart [] ≠ .setVideoFormat n r d)
      ∧ ∃ t, exec (.frameStart []) { start with clock := c } = .next t := by
  refine ⟨⟨by decide +kernel, by decide +kernel, ?_⟩, fun _ => nofun, _, rfl⟩
  intro p hp
  cases hp
  decide +kernel

theorem witness_AbsentViewfinderStaysWithdrawn : start.vf.Withdrawn ∧ start.vf.present = false
    ∧ ∃ t, step start = .next t := by
  refine ⟨?_, by decide +kernel, _, rfl⟩
  unfold Viewfinder.Withdrawn
  decide +kernel

theorem witness_BlocksStayInRange : start.vf.InRange ∧ start.shots.InRange ∧ start.audio.QueueInRange
    ∧ start.stab.DriveInRange ∧ ∃ t, step start = .next t := by
  refine ⟨?_, ?_, ?_, ?_, _, rfl⟩
  · unfold Viewfinder.InRange; decide +kernel
  · unfold Shots.InRange; decide +kernel
  · unfold Audio.QueueInRange; decide +kernel
  · unfold Stab.DriveInRange; decide +kernel

theorem witness_OneClipStaysOpen : (recording start).recorder.OneOpenClip
    ∧ ∃ t, step (recording start) = .next t := by
  refine ⟨?_, _, rfl⟩
  unfold Recorder.OneOpenClip
  decide +kernel

/-! ### Witnesses: registers and slots -/

theorem witness_ControllerResetKeepsWhatItMust : (3 : BusWord).getLsbD 1 = true ∧ start.clock.frameDue = false
    ∧ ({ start.clock with frameDue := true } : Clock).frameDue = true := by decide +kernel

theorem witness_RegistersBehave : (0x101 : BusWord).getLsbD 1 = false
    ∧ (∀ n : Fin 32, start.unit.slots[n].state = .free)
    ∧ (slotIn 31 ⟨.posted, none⟩ start).unit.slots[(31 : Fin 32)].state ≠ .free := by decide +kernel

/-- Slots 1 and 31 posted, slot 2 waiting in the LENS lane's queue place. -/
theorem witness_FetchAndLaneStart :
    let s : State := { start with unit := { start.unit with enable := true, fetchQueue := [1, 31] } }
    let l := slotIn 2 ⟨.waiting, some (.recStart 2)⟩
      { start with unit := { start.unit with lanes := put start.unit.lanes (laneIndex .record) [2] } }
    (s.unit.enable = true ∧ s.unit.fetching = none ∧ s.unit.fetchQueue = [1, 31])
    ∧ (start.unit.enable = false ∧ start.unit.fetchQueue = [])
    ∧ (laneIsSerial .record = true ∧ laneBusy .record l.unit = false
        ∧ l.unit.lanes[laneIndex .record] = [2])
    ∧ (laneIsSerial .lens = false ∧ start.unit.lanes[laneIndex .record] = []
        ∧ laneBusy .record (asked (.recStop 0) start).unit = true) := by decide +kernel

theorem witness_FetchEndsByItsChecks :
    let s : State := { start with unit := { start.unit with fetching := some 3 } }
    Instr.wellFormed (.recStart 3) = true ∧ requestParts (.recStart 3) = some (3, .recStart, [])
    ∧ s.unit.fetching = some 3 ∧ decodeRequest 3 0x37 0 [] = none
    ∧ (laneIsSerial .record = true ∧ laneBusy .record s.unit = false
        ∧ s.unit.lanes[laneIndex .record] = []) ∧ laneIsSerial .lens = false := by decide +kernel

theorem witness_CompletionWritesReachTheSlot :
    let c : Completion := ⟨31, 0x10000, .ok, List.replicate 240 1, none, true⟩
    let s (c : Completion) : State := { start with unit := { start.unit with completions := [c] } }
    ((s c).unit.completions = [c] ∧ c.live = true ∧ c.result.length ≤ 240)
    ∧ (s { c with live := false }).unit.completions = [{ c with live := false }]
    ∧ ({ c with live := false } : Completion).live = false := by decide +kernel

theorem witness_CancelByTargetState :
    let i : Instr := .cancel 0 (BitVec.ofNat 8 (31 : Fin 32).val)
    let of (r : Instr) (x : SlotState) (s : State) : State := slotIn 31 ⟨x, some r⟩ (asked i s)
    let s (x : SlotState) : State := of (.recStart 31) x start
    let z : State := of (.zoomMove 31 5 5) .running { start with
      zoom := { start.zoom with holder := .host, host := some ⟨31, .move 5 5, false⟩ } }
    let f : State := of (.focusMove 31 5 5) .running { start with
      focus := { start.focus with state := .moving, host := some ⟨31, 5, 5, false⟩, pos := some 8191 } }
    let r : State := of (.irisSet 31 5) .running { start with
      iris := { start.iris with host := some ⟨31, 5, false⟩ } }
    let q (op : ShotOp) : State := of (.shotRecall 31) .running { start with
      shots := { start.shots with op := some op }, zoom := { start.zoom with holder := .recall }
      focus := { start.focus with holder := .recall }, iris := { start.iris with holder := .recall } }
    let c : Calibration := ⟨31, 1, ⟨2, 1, 1⟩, ⟨0, 4095, 0⟩⟩
    let k : State := of (.stabCalibrate 31) .running { start with stab := { start.stab with cal := some c } }
    isStarted 0 i (s .waiting) = true ∧ (s .waiting).unit.slots[(31 : Fin 32)].state = .waiting
    ∧ (s .free).unit.slots[(31 : Fin 32)].state = .free
    ∧ (s .posted).unit.slots[(31 : Fin 32)].state = .posted
    ∧ (s .done).unit.slots[(31 : Fin 32)].state = .done
    ∧ isStarted 0 i (s .running) = true ∧ (s .running).unit.slots[(31 : Fin 32)].state = .running
    ∧ slotKind 31 (s .running) = some .recStart ∧ RequestKind.recStart.cancellable = false
    ∧ (isStarted 0 i z = true ∧ slotKind 31 z = some .zoomMove ∧ z.zoom.holder = .host
        ∧ z.zoom.host = some ⟨31, .move 5 5, false⟩ ∧ z.unit.slots[(31 : Fin 32)].state = .running)
    ∧ (isStarted 0 i f = true ∧ slotKind 31 f = some .focusMove ∧ f.focus.state = .moving
        ∧ f.focus.host = some ⟨31, 5, 5, false⟩ ∧ f.focus.pos = some 8191 ∧ 8191 ≤ f.focus.near)
    ∧ (isStarted 0 i r = true ∧ slotKind 31 r = some .irisSet ∧ r.iris.host = some ⟨31, 5, false⟩)
    ∧ (isStarted 0 i (q (.reading (.request 31))) = true
        ∧ slotKind 31 (q (.reading (.request 31))) = some .shotRecall
        ∧ (q (.reading (.request 31))).shots.op = some (.reading (.request 31))
        ∧ (q (.moving ⟨.request 31, someShot, true, false, false, false⟩)).zoom.holder = .recall
        ∧ (q (.moving ⟨.request 31, someShot, true, false, false, false⟩)).shots.op
            = some (.moving ⟨.request 31, someShot, true, false, false, false⟩))
    ∧ (isStarted 0 i k = true ∧ slotKind 31 k = some .stabCalibrate ∧ k.stab.cal = some c ∧ c.slot = 31)
    ∧ ((of (.irisSet 31 5) .started start).unit.slots[(31 : Fin 32)].state = .started
        ∧ isStarted 0 i (of (.irisSet 31 5) .started start) = true ∧ RequestKind.irisSet.cancellable = true)
    ∧ (isStarted 0 (.cancel 0 32) (asked (.cancel 0 32) start) = true ∧ 31 < (32 : Byte).toNat) := by
  decide +kernel

theorem witness_SetScanClampsTheCode : isStarted 0 (.setScan 0 2) (asked (.setScan 0 2) start) = true
    ∧ isStarted 0 (.setScan 0 7) (asked (.setScan 0 7) start) = true
    ∧ isStarted 0 (.setScan 0 8) (asked (.setScan 0 8) start) = true
    ∧ [Channel.pot2].contains (classCChannel (classCAt 3)) = true := by decide +kernel

theorem witness_LineEventAndPowerSettings :
    let levels : List Byte := List.replicate 24 15 ++ [16]
    let g : List LineParam := List.replicate 7 ⟨256, 1, 0⟩
    let bad : List LineParam := List.replicate 6 ⟨0, 1, 0⟩ ++ [⟨0, 2, 0⟩]
    let p (low empty : BitVec 16) : Instr := .setPowerLimits 0 low empty
    let filtered : State := { start with power := { start.power with filter := some 7000 } }
    (levels.length = 25 ∧ isStarted 0 (.setEventLevels 0 levels) (asked (.setEventLevels 0 levels) start) = true)
    ∧ (g.length = 7 ∧ isStarted 0 (.setLines 0 g) (asked (.setLines 0 g) start) = true
        ∧ ∀ x ∈ g, x.rise.toNat ≤ 1 ∧ x.fall.toNat ≤ 1)
    ∧ (bad.length = 7 ∧ isStarted 0 (.setLines 0 bad) (asked (.setLines 0 bad) start) = true
        ∧ ∃ x ∈ bad, x.rise.toNat > 1 ∨ x.fall.toNat > 1)
    ∧ (isStarted 0 (p 6301 6000) (asked (p 6301 6000) start) = true
        ∧ 6300 ≤ (6301 : BitVec 16).toNat ∧ (6301 : BitVec 16).toNat > (6000 : BitVec 16).toNat + 300
        ∧ start.power.filter = none ∧ filtered.power.filter = some 7000)
    ∧ (isStarted 0 (p 6300 6000) (asked (p 6300 6000) start) = true
        ∧ ¬((6300 : BitVec 16).toNat > (6000 : BitVec 16).toNat + 300)) := by decide +kernel

theorem witness_SetCueReplacesTheChannel :
    let p : CueParam := ⟨3, 1, 0, 0x18, 1, 2, 5, 0⟩
    let bad : CueParam := ⟨0, 1, 0, 0x19000000, 0, 0, 0, 0⟩
    let c (k : Fin 4) (x : CueSource) (a : CueAction) (prev : Option Nat) (s : State) : State := { s with
      cues := put s.cues k { s.cues[k] with enable := true, source := x, action := a, previous := prev } }
    let z (a : CueAction) : State := { c 3 (.zoom 4095) a (some 4094) (recording (lensReady start)) with
      scan := { start.scan with grants := [.zoomPos] } }
    let f : State := c 0 (.focus 4) .eventOnly (some 5)
      { start with focus := { start.focus with state := .moving, pos := some 5, target := 0 } }
    let k : State := c 2 (.clipFrames 101) .recStop none (recording start)
    (isStarted 0 (.setCue 0 p) (asked (.setCue 0 p) start) = true ∧ p.channel.toNat = (3 : Fin 4).val
      ∧ p.mask.getLsbD 0 = true ∧ p.mask.toNat ≤ 15 ∧ p.condition.toNat ≤ 2 ∧ p.action.toNat ≤ 5)
    ∧ (isStarted 0 (.setCue 0 bad) (asked (.setCue 0 bad) start) = true ∧ bad.source = 0
        ∧ bad.mask.getLsbD 3 = false ∧ ¬(bad.value.toNat / 16777216 < start.clock.rate.labelRate))
    ∧ ((z .markCue).scan.grants.contains .zoomPos = true
        ∧ (z .markCue).cues[(3 : Fin 4)].source = .zoom 4095 ∧ (z .markCue).cues[(3 : Fin 4)].enable = true
        ∧ (z .markCue).cues[(3 : Fin 4)].previous = some 4094
        ∧ (∀ i : Fin 4, i ≠ 3 → (z .markCue).cues[i].enable = false) ∧ (z .markCue).shots.op = none
        ∧ (z .markCue).cues[(3 : Fin 4)].condition ≠ .crossDown ∧ openClip (z .markCue) = some (someClip .opened)
        ∧ (z .recStop).recorder.state = .recording ∧ (z .recStop).recorder.pendingStop = none
        ∧ (z .shotPush).focus.state = .idle ∧ (z .shotPush).focus.pos = some 500
        ∧ (z .shotPush).iris.pos = some 100 ∧ (z .shotPush).track.on = false
        ∧ (z .shotRecall).shots.banks = [] ∧ (z .shotRecall).shots.spill = 0)
    ∧ ({ rec (fun r => { r with state := .standby }) start with cardA := readyCard }.cardA.state = .ready)
    ∧ (f.focus.state = .moving ∧ f.focus.pos = some 5 ∧ f.cues[(0 : Fin 4)].source = .focus 4
        ∧ f.cues[(0 : Fin 4)].previous = some 5 ∧ f.cues[(0 : Fin 4)].action = .eventOnly)
    ∧ ((c 1 (.tc ⟨0, 0, 0, 1⟩) .eventOnly none start).cues[(1 : Fin 4)].source = .tc ⟨0, 0, 0, 1⟩
        ∧ ∀ i : Fin 4, i ≠ 1 → (c 1 (.tc ⟨0, 0, 0, 1⟩) .eventOnly none start).cues[i].enable = false)
    ∧ (k.cues[(2 : Fin 4)].source = .clipFrames 101 ∧ k.cues[(2 : Fin 4)].firedClip = false
        ∧ k.cues[(2 : Fin 4)].action = .recStop ∧ k.recorder.state = .recording ∧ k.recorder.pendingStop = none
        ∧ openClip k = some (someClip .opened)
        ∧ (someClip .opened).frames + 1 ≠ framesPerDay k.clock.rate k.clock.drop) := by decide +kernel

theorem witness_GetStatusReportsAndDrains :
    isStarted 0 (.getStatus 0) (asked (.getStatus 0) (vf (fun v => { v with drops := 2 }) start)) = true := by
  decide +kernel

theorem witness_DisplayRequestsTakeEffect :
    let text : List Byte := List.replicate 24 0x7F
    text.length = 24 ∧ isStarted 0 (.setVfText 0 24 text) (asked (.setVfText 0 24 text) start) = true
    ∧ (24 : Byte).toNat ≤ 24 ∧ isStarted 0 (.setVfText 0 25 text) (asked (.setVfText 0 25 text) start) = true
    ∧ 24 < (25 : Byte).toNat
    ∧ isStarted 0 (.setVfConfig 0 0x77) (asked (.setVfConfig 0 0x77) start) = true
    ∧ isStarted 0 (.setVfConfig 0 0x78) (asked (.setVfConfig 0 0x78) start) = true
    ∧ 0x77 < (0x78 : Byte).toNat := by decide +kernel

/-! ### Witnesses: clock, lines, scan, power -/

theorem witness_ClockRequests :
    let g (b : Byte) (on : Bool) : State :=
      asked (.setGenlock 0 b) { start with clock := { start.clock with genlock := on } }
    let tc : Instr := .setTc 0 23 59 59 24
    let m (b : Byte) (st : RecState) : State := asked (.setTcMode 0 b) (rec (fun r => { r with state := st }) start)
    (isStarted 0 (.setGenlock 0 1) (g 1 false) = true ∧ isStarted 0 (.setGenlock 0 0) (g 0 true) = true
      ∧ (g 0 true).clock.genlock = true ∧ isStarted 0 (.setGenlock 0 0) (g 0 false) = true
      ∧ (g 0 false).clock.genlock = false ∧ isStarted 0 (.setGenlock 0 2) (g 2 true) = true)
    ∧ (isStarted 0 tc (asked tc start) = true ∧ (24 : Byte).toNat < start.clock.rate.labelRate
      ∧ start.recorder.state.isBusy = false)
    ∧ (let busy : State := rec (fun r => { r with state := .arming }) start
      isStarted 0 (.setTc 0 24 0 0 0) (asked (.setTc 0 24 0 0 0) start) = true ∧ ¬(24 : Byte).toNat ≤ 23
      ∧ isStarted 0 tc (asked tc busy) = true ∧ (asked tc busy).recorder.state.isBusy = true)
    ∧ (isStarted 0 (.setTcMode 0 2) (m 2 .standby) = true
      ∧ isStarted 0 (.setTcMode 0 1) (m 1 .recording) = true ∧ (m 1 .recording).recorder.state.isBusy = true
      ∧ isStarted 0 (.setTcMode 0 0) (m 0 .halted) = true ∧ (m 0 .halted).recorder.state.isBusy = false
      ∧ (m 0 .halted).clock.mode = .freeRun) := by decide +kernel

/-- A SET_TC_MODE that changes the mode, in HALTED, in STANDBY and with an extent held in PREREC. -/
theorem witness_ClockRequests_mode :
    let m (b : Byte) (st : RecState) (now : TcMode) (held : List Extent) : State :=
      asked (.setTcMode 0 b) (taken (.writeEssence 5 []) { rec (fun r => { r with
          state := st, limit := 600, held := held, essences := [⟨5, 1, [⟨none, 0, none, .none, .none⟩]⟩] }) start with
        clock := { start.clock with mode := now } })
    let p : State := m 1 .prerec .freeRun [⟨5, 0, 0, 1, 600⟩]
    (isStarted 0 (.setTcMode 0 0) (m 0 .halted .recRun []) = true ∧ (m 0 .halted .recRun []).clock.mode ≠ .freeRun)
    ∧ ((m 0 .standby .recRun []).recorder.state = .standby ∧ (m 0 .standby .recRun []).recorder.held = []
        ∧ 0 < (m 0 .standby .recRun []).recorder.limit)
    ∧ (isStarted 0 (.setTcMode 0 1) p = true ∧ p.recorder.state = .prerec ∧ p.recorder.state.isBusy = false
        ∧ p.recorder.held = [⟨5, 0, 0, 1, 600⟩] ∧ p.clock.mode ≠ .recRun
        ∧ p.unit.slots[(5 : Fin 32)].state = .running) := by decide +kernel

theorem witness_SetVideoFormatReplacesTheFormat :
    let v (r d : Byte) (st : RecState) : State :=
      asked (.setVideoFormat 0 r d) (rec (fun k => { k with state := st }) start)
    isStarted 0 (.setVideoFormat 0 3 1) (v 3 1 .standby) = true
    ∧ (FrameRate.r2997.code = (3 : Byte).toNat ∧ (1 : Byte).toNat = (if true then 1 else 0) ∧ (3 : Byte) = 3)
    ∧ (FrameRate.r60.code = (7 : Byte).toNat ∧ isStarted 0 (.setVideoFormat 0 7 0) (v 7 0 .prerec) = true)
    ∧ (v 3 1 .standby).recorder.state = .standby ∧ (v 3 1 .recording).recorder.state ≠ .standby
    ∧ (v 3 1 .recording).recorder.state ≠ .prerec ∧ (∀ e ∈ (v 3 1 .standby).recorder.essences, e.slot ≠ 0)
    ∧ (isStarted 0 (.setVideoFormat 0 8 0) (v 8 0 .standby) = true ∧ 7 < (8 : Byte).toNat)
    ∧ (isStarted 0 (.setVideoFormat 0 0 2) (v 0 2 .standby) = true ∧ 1 < (2 : Byte).toNat)
    ∧ (isStarted 0 (.setVideoFormat 0 2 1) (v 2 1 .standby) = true ∧ (2 : Byte) ≠ 3 ∧ (2 : Byte) ≠ 6) := by
  decide +kernel

theorem witness_FrameStartSettlesTheLabel :
    let s : State := taken (.setTc 5 1 0 0 0)
      { start with clock := { start.clock with preset := some ⟨⟨1, 0, 0, 0⟩, 5, false⟩ } }
    s.clock.preset = some ⟨⟨1, 0, 0, 0⟩, 5, false⟩ ∧ s.unit.slots[(5 : Fin 32)].state.inService = true
    ∧ (vf (fun v => { v with shown := some .y }) start).vf.shown = some .y := by decide +kernel

/-- The viewfinder link can take the notice first: the order is well formed, and the text has 24 characters. -/
theorem witness_FrameStartSettlesTheLabel_page : start.vf.text.length = 24
    ∧ Instr.wellFormed (.frameStart [.page, .record, .audio, .lens, .cues, .clock]) = true := by decide +kernel

theorem witness_ReferenceEdgeByItsClass :
    let e (x : Option Nat) (k : LockState) (n : Nat) : State := { start with
      clock := { start.clock with genlock := true, rate := .r25, prevEdge := x, lock := k, counter := n } }
    let p := (e none .free 0).clock.rate.period
    let near : Option Nat := some 1090800
    start.clock.genlock = false ∧ (e none .free 0).clock.prevEdge = none
    ∧ (539999 < p / 2)
    ∧ ((540000 : Nat) ≥ p / 2 ∧ 100 * ((540000 : Int) - p).natAbs > p)
    ∧ (100 * ((1090800 : Int) - p).natAbs ≤ p ∧ 2 * 2701 < p)
    ∧ ((e near .locked 270).clock.lock = .locked ∧ ((270 : Nat) : Int).natAbs ≤ 270
        ∧ (e near .locked 271).clock.unlockCount = 0 ∧ 270 < ((271 : Nat) : Int).natAbs
        ∧ ({ (e near .locked 271).clock with unlockCount := 1 } : Clock).unlockCount = 1)
    ∧ ((e near .acquire 28).clock.lock = .acquire ∧ 27 < ((28 : Nat) : Int).natAbs
        ∧ ((27 : Nat) : Int).natAbs ≤ 27 ∧ (e near .acquire 27).clock.lockCount < 7
        ∧ ({ (e near .acquire 27).clock with lockCount := 7 } : Clock).lockCount = 7)
    ∧ ((e near .holdover 2700).clock.lock = .holdover ∧ ¬(2700 < ((2700 : Nat) : Int).natAbs))
    ∧ (2700 < ((2701 : Nat) : Int).natAbs ∧ openClip (e near .free 2701) = none
        ∧ openClip (recording (e near .acquire 2701)) = some (someClip .opened)) := by decide +kernel

theorem witness_HoldoverBeginsAndEnds :
    let s (m h : Nat) (k : LockState) : State := { start with
      clock := { start.clock with watchdog := some 5, missed := m, holdover := h, lock := k } }
    ((s 1 0 .locked).clock.watchdog = some 5 ∧ (s 1 0 .locked).clock.missed < 2)
    ∧ ((s 2 0 .locked).clock.missed = 2 ∧ (s 2 0 .acquire).clock.lock = .acquire)
    ∧ ((s 0 249 .holdover).clock.lock = .holdover ∧ (s 0 249 .holdover).clock.holdover = 249) := by
  decide +kernel

theorem witness_LinesAreDebounced :
    let s (timer : Option Nat) : State := { start with
      lines := put start.lines 6 { start.lines[(6 : Fin 7)] with timer := timer, debounce := 1 } }
    (s none).lines[(6 : Fin 7)].raw ≠ true ∧ (s none).lines[(6 : Fin 7)].timer = none
    ∧ (s none).lines[(6 : Fin 7)].debounced ≠ true ∧ 0 < (s none).lines[(6 : Fin 7)].debounce
    ∧ (s (some 3)).lines[(6 : Fin 7)].timer ≠ none ∧ (s none).lines[(6 : Fin 7)].raw = false
    ∧ start.lines[(6 : Fin 7)].debounce = 0 ∧ start.lines[(6 : Fin 7)].timer = none
    ∧ start.lines[(6 : Fin 7)].debounced ≠ true := by
  decide +kernel

/-- The edges of HANDLE_REC, SHOT_BUTTON and FOCUS_HOME that their owners act on. -/
theorem witness_LinesAreDebounced_owners :
    let s (i : Fin 7) (level : Bool) (s : State) : State := { s with
      lines := put s.lines i { s.lines[i] with raw := level, timer := some 0 } }
    let p (source : PressSource) (pushed : Bool) : State := { start with
      shots := { start.shots with press := some ⟨source, none, pushed⟩ } }
    ((s 4 true start).lines[(4 : Fin 7)].timer ≠ none ∧ (s 4 true start).lines[(4 : Fin 7)].raw = true
      ∧ (s 4 true start).recorder.guardTimer = none)
    ∧ (rec (fun r => { r with guardTimer := some 1 }) (s 4 true start)).recorder.guardTimer ≠ none
    ∧ ((s 5 true start).shots.press = none ∧ (s 5 false start).lines[(5 : Fin 7)].raw = false
      ∧ (s 5 false (p .line true)).shots.press = some ⟨.line, none, true⟩
      ∧ (s 5 false (p .line false)).shots.press = some ⟨.line, none, false⟩
      ∧ (s 5 false (p .viewfinder false)).shots.press = some ⟨.viewfinder, none, false⟩)
    ∧ ((s 6 true (lensReady start)).focus.state ≠ .referencing
      ∧ (s 6 true start).focus.state = .referencing) := by decide +kernel

/-- The record states in which an operator press acts, each with what it needs. -/
theorem witness_pressActed :
    let k (f : Recorder → Recorder) : State := rec f start
    let ready : State := { start with cardA := { start.cardA with state := .ready } }
    let pending (r : Recorder) : Recorder := { r with pendingStart := some (.request 5), restart := true }
    ((k fun r => { r with state := .halted }).recorder.state = .halted ∧ start.recorder.state = .standby
      ∧ start.cardA.state ≠ .ready ∧ start.cardB.state ≠ .ready)
    ∧ (ready.recorder.state = .standby ∧ ready.recorder.powerEmpty = false ∧ ready.cardA.state = .ready)
    ∧ ((k fun r => { pending r with state := .arming }).recorder.held = []
      ∧ (taken (.recStart 5) (k fun r => { pending r with state := .arming })).unit.slots[(5 : Fin 32)].state
        = .running)
    ∧ ((k fun r => { r with state := .recording }).recorder.pendingStop = none
      ∧ (k fun r => { r with state := .stopping }).recorder.restart = false
      ∧ (k fun r => { pending r with state := .stopping }).recorder.restart = true
      ∧ (k fun r => { pending r with state := .stopping }).recorder.after = []) := by decide +kernel

theorem witness_ConverterScanAndConversions :
    let u : State := { start with
      scan := { start.scan with grants := [.yawGyro], unconverted := put start.scan.unconverted 3 63 } }
    let s : State := { start with
      scan := { start.scan with grants := [.zoomPos, .irisHall, .battery, .dcInput, .pot1, .pot2] } }
    let w (st : PowerState) (b : BatteryState) : State := { recording s with
      power := { start.power with filter := some 5000, dc := true, battery := b, state := st }
      stab := { start.stab with mode := .on, state := .active } }
    let after (s : State) : Option PowerState := match exec (.conversionComplete .dcInput 0) s with
      | .next t => some t.power.state
      | _ => none
    (u.scan.grants.contains (classCChannel .pot2) = false ∧ u.scan.unconverted[classCIndex .pot2] = 63
      ∧ u.scan.starvations < 65535 ∧ isMuted .diag { u with events := { u.events with
          levels := Vector.replicate 25 1 } } = false)
    ∧ s.scan.grants.contains .yawGyro = false ∧ s.scan.grants.contains .pot1 = true
    ∧ s.scan.grants.contains .pot2 = true ∧ s.scan.grants.contains .dcInput = true
    ∧ s.scan.grants.contains .battery = true ∧ s.scan.grants.contains .zoomPos = true
    ∧ s.scan.grants.contains .irisHall = true
    ∧ (after (w .dc .empty) = some .empty ∧ (w .dc .empty).recorder.state = .recording
        ∧ (w .dc .empty).recorder.pendingStop = none ∧ (w .dc .empty).stab.state = .active)
    ∧ (after (w .dc .low) = some .low ∧ openClip (w .dc .low) = some (someClip .opened))
    ∧ (after (w .empty .normal) = some .normal ∧ (w .empty .normal).power.state = .empty)
    ∧ after { w .normal .normal with power := { start.power with filter := some 5000 } } = some .normal
    ∧ (let b (old : BatteryState) (samples : List Nat) (filter : Option Nat) : State := { s with
          power := { s.power with battery := old, samples := samples, filter := filter } }
      let f (x : State) : Option Nat := match exec (.conversionComplete .battery 1200) x with
        | .next t => t.power.filter
        | _ => none
      (b .normal [] none).power.battery = .normal ∧ f (b .normal [] none) = none
        ∧ f (b .low (List.replicate 8 6000) (some 6000)) = some 6000
        ∧ (b .empty (List.replicate 8 6000) (some 6000)).power.battery = .empty) := by
  decide +kernel

/-- The grants that follow from the pointer at its last channel, at codes 5, 6 and 7. -/
theorem witness_ConverterScanAndConversions_grants :
    let g (code : Nat) : Option (List Channel) := match exec .scanFrameStart
        { start with scan := { start.scan with requested := code, pointer := .pot2, altIris := true } } with
      | .next t => some t.scan.grants
      | _ => none
    g 5 = some [.yawGyro, .pitchGyro, .zoomPos, .irisHall, .pot2, .battery, .dcInput, .pot1]
    ∧ g 6 = some [.yawGyro, .pitchGyro, .zoomPos, .irisHall, .pot2, .battery, .dcInput]
    ∧ g 7 = some [.yawGyro, .pitchGyro, .irisHall] := by decide +kernel

theorem witness_BatteryPercentByTheRule : 6000 ≤ 6000 ∧ 6000 ≤ 16200 ∧ 6000 ≤ 16800 ∧ 5999 < 6000
    ∧ start.power.filter = none := by decide +kernel

/-! ### Witnesses: lens, tracking, shots -/

theorem witness_ZoomRequestsByTheHolder :
    let z (i : Instr) (h : Holder) : State := asked i { start with zoom := { start.zoom with holder := h } }
    let m : Instr := .zoomMove 0 4096 0
    let v : Instr := .zoomSpeed 0 0x80 10001
    let running : State := taken v { start with zoom :=
      { start.zoom with holder := .host, host := some ⟨5, .speed (-127) 0, true⟩ } }
    (isStarted 0 m (z m .operator) = true ∧ (z m .operator).zoom.holder = .operator)
    ∧ (isStarted 0 m (z m .recall) = true ∧ (z m .recall).zoom.holder = .recall)
    ∧ (isStarted 0 m (z m .none) = true ∧ (z m .none).zoom.host = none ∧ (z m .none).zoom.z = none)
    ∧ (let at0 (i : Instr) (pos : Nat) (old : Option HostZoom) : State := asked i (taken (.zoomMove 5 0 0)
          { start with zoom := { start.zoom with
            z := some pos, host := old, holder := if old.isSome then .host else .none } })
      let old : HostZoom := ⟨5, .move 9 9, false⟩
      isStarted 0 m (at0 m 4091 none) = true ∧ isStarted 0 m (at0 m 4090 (some old)) = true
      ∧ ((4095 : Int) - 4091).natAbs ≤ 4 ∧ 4 < ((4095 : Int) - 4090).natAbs
      ∧ (at0 m 4090 (some old)).zoom.host = some old ∧ (at0 m 4090 (some old)).zoom.holder = .host
      ∧ (at0 m 4090 (some old)).unit.slots[(5 : Fin 32)].state = .running
      ∧ isStarted 0 v (at0 v 9 (some old)) = true)
    ∧ (isStarted 0 v (z v .none) = true ∧ (z v .none).zoom.holder = .none ∧ (z v .none).zoom.host = none)
    ∧ (running.zoom.host = some ⟨5, .speed (-127) 0, true⟩
        ∧ running.unit.slots[(5 : Fin 32)].state.inService = true) := by decide +kernel

/-- ZOOM_SPEED under the operator and under a recall. -/
theorem witness_ZoomRequestsByTheHolder_speed :
    let v : Instr := .zoomSpeed 0 0x80 10001
    let z (h : Holder) : State := asked v { start with zoom := { start.zoom with holder := h } }
    (isStarted 0 v (z .operator) = true ∧ (z .operator).zoom.holder = .operator)
    ∧ isStarted 0 v (z .recall) = true ∧ (z .recall).zoom.holder = .recall := by decide +kernel

theorem witness_AppliedSpeedRespectsTheLimits :
    let s (z : Nat) : State := { start with zoom := { start.zoom with z := some z, demand := 50 } }
    let g (on inhibit : Bool) (lag : Nat) : State := { s 2000 with
      track := { start.track with on := on, lag := lag }, zoom := { (s 2000).zoom with lagInhibit := inhibit } }
    start.zoom.z = none ∧ ({ start.zoom with stallCut := true } : Zoom).stallCut = true
    ∧ (s 0).zoom.z = some 0 ∧ 0 ≤ (s 0).zoom.softMin ∧ (s 0).zoom.softMax ≤ 4095
    ∧ ((s 0).zoom.softMin < 2000 ∧ 2000 < (s 0).zoom.softMax ∧ (s 0).zoom.stallCut = false
        ∧ (s 0).track.on = false ∧ (s 0).power.state ≠ .empty)
    ∧ ((g true false 257).track.on = true ∧ 256 < (g true false 257).track.lag)
    ∧ ((g true true 64).zoom.lagInhibit = true ∧ 64 ≤ (g true true 64).track.lag)
    ∧ ((g true true 63).track.lag < 64 ∧ (g true false 256).track.lag ≤ 256)
    ∧ (deriveApplied (g true false 64)).zoom.applied = 25
    ∧ 0 < (deriveApplied (s 2000)).zoom.applied
    ∧ (deriveApplied { s 2000 with zoom := { (s 2000).zoom with demand := -1 } }).zoom.applied < 0
    ∧ (deriveApplied start).zoom.applied = 0
    ∧ (let w : State := { s 0 with zoom := { (s 0).zoom with demand := -50 } }
      w.zoom.wideFlag = false ∧ w.zoom.z = some 0 ∧ w.zoom.demand < 0 ∧ 0 ≤ w.zoom.softMin
        ∧ isMuted .lensLimit w = false ∧ isLatched .lensLimit (deriveApplied w) = true
        ∧ (deriveApplied w).zoom.wideFlag = true)
    ∧ (let o : State := { start with
          zoom := { start.zoom with holder := .operator, rocker := 127 }
          scan := { start.scan with grants := [.zoomPos] } }
      o.scan.grants.contains .zoomPos = true ∧ o.zoom.holder = .operator ∧ o.track.on = false
        ∧ o.power.state ≠ .empty ∧ ∀ k : Fin 4, o.cues[k].enable = false)
    ∧ (let r : State := { start with
          focus := { start.focus with pos := some 0, target := 257 }
          track := { start.track with on := true, lag := 256 } }
      isMuted .trackLag r = false ∧ isLatched .trackLag (updateLag r) = true) := by decide +kernel

/-- A granted zoom conversion to Z = 4095: with tracking ON and a new Z under a free focus, under a host move and during
a recall; with an equal Z; and with a lag that rises above 256. -/
theorem witness_AppliedSpeedRespectsTheLimits_tracking :
    let table : List Nat := (List.range 153).map fun i => 100 * (i / 17)
    let moving : ShotOp := .moving ⟨.press, someShot, false, false, false, false⟩
    let s (on : Bool) (last : Option Nat) (h : FocusHolder) (op : Option ShotOp) : State := { lensReady start with
      scan := { start.scan with grants := [.zoomPos] }
      focus := { (lensReady start).focus with holder := h }
      shots := { start.shots with op := op }
      track := { start.track with on := on, lastZ := last, table := some table, d := 2048 } }
    let z := min 4095 ((((4095 : BitVec 12).toNat - start.zoom.wide : Int) * 4095).tdiv
      ((start.zoom.tele : Int) - start.zoom.wide)).toNat
    z = 4095 ∧ (s true none .none none).scan.grants.contains .zoomPos = true
    ∧ (∀ i : Fin 4, (s true none .none none).cues[i].previous = none)
    ∧ (s false none .none none).track.on = false ∧ (s true (some z) .none none).track.lastZ = some z
    ∧ ((s true none .host none).track.on = true ∧ (s true none .host none).track.lastZ ≠ some z
        ∧ (s true none .host none).track.table = some table ∧ (s true none .host none).focus.holder = .host)
    ∧ ((s true none .none (some moving)).shots.op = some moving
        ∧ (⟨.press, someShot, false, false, false, false⟩ : Recall).focusDone = false)
    ∧ ((s true none .none none).focus.state = .idle ∧ (s true none .none none).focus.holder = .none
        ∧ (s true none .none none).shots.op = none ∧ (s true none .none none).focus.pos = some 500
        ∧ (s true none .none none).track.lag ≤ 256 ∧ trackingTarget table z 2048 = 800 ∧ 256 < 800 - 500
        ∧ isMuted .trackLag (s true none .none none) = false) := by decide +kernel

theorem witness_StallsEndTheMove :
    let m : Instr := .zoomMove 5 3000 64
    let s : State := taken m { start with zoom := { start.zoom with
      z := some 1000, stall := some ⟨1001, 199⟩, applied := 16, holder := .host
      host := some ⟨5, .move 3000 64, false⟩ } }
    let i : State := taken (.irisSet 5 30) { start with iris := { start.iris with
      holder := .host, host := some ⟨5, 30, false⟩, pos := some 32, target := some 30, command := some 30
      settle := 49 } }
    (s.zoom.z = some 1000 ∧ s.zoom.stall = some ⟨1001, 199⟩ ∧ 16 ≤ s.zoom.applied.natAbs
      ∧ ((1000 : Nat) - (1001 : Int)).natAbs < 2 ∧ s.zoom.holder = .host
      ∧ s.zoom.host = some ⟨5, .move 3000 64, false⟩ ∧ s.unit.slots[(5 : Fin 32)].state.inService = true)
    ∧ (i.iris.holder = .host ∧ i.iris.host = some ⟨5, 30, false⟩ ∧ i.iris.pos = some 32
      ∧ i.iris.target = some 30 ∧ i.iris.command = some 30 ∧ 1 < ((32 : Nat) - (30 : Int)).natAbs
      ∧ i.iris.settle = 49 ∧ i.unit.slots[(5 : Fin 32)].state = .running ∧ i.clock.preset = none
      ∧ (∀ k : Fin 4, i.cues[k].enable = false) ∧ i.recorder.state = .standby) := by decide +kernel

/-- Stalls of an axis that a recall holds, that the operator holds, and that none holds. -/
theorem witness_StallsEndTheMove_holders :
    let r : Recall := ⟨.request 5, someShot, false, false, false, false⟩
    let s (h : Holder) : State := taken (.shotRecall 5) { lensReady start with
      zoom := { (lensReady start).zoom with stall := some ⟨999, 199⟩, applied := -16, holder := h }
      focus := { (lensReady start).focus with holder := .recall }
      iris := { (lensReady start).iris with
        holder := h, pos := some 32, target := some 30, command := some 30, settle := 49 }
      shots := { start.shots with op := some (.moving r), banks := [someShot] } }
    ((s .recall).zoom.z = some 1000 ∧ (s .recall).zoom.stall = some ⟨999, 199⟩
        ∧ 16 ≤ (s .recall).zoom.applied.natAbs ∧ ((1000 : Nat) - (999 : Int)).natAbs < 2
        ∧ (s .recall).zoom.holder = .recall ∧ (s .recall).shots.op = some (.moving r)
        ∧ ∀ k, r.source = .request k → (s .recall).unit.slots[k].state = .running)
    ∧ ((s .operator).zoom.holder = .operator ∧ (s .none).zoom.holder = .none)
    ∧ ((s .recall).iris.pos = some 32 ∧ (s .recall).iris.target = some 30 ∧ (s .recall).iris.command = some 30
        ∧ 1 < ((32 : Nat) - (30 : Int)).natAbs ∧ (s .recall).iris.settle = 49 ∧ (s .recall).clock.preset = none
        ∧ (∀ k : Fin 4, (s .recall).cues[k].enable = false) ∧ (s .recall).recorder.state = .standby
        ∧ (s .recall).iris.holder = .recall ∧ (s .recall).iris.host = none)
    ∧ ((s .operator).iris.holder = .operator ∧ (s .none).iris.holder = .none) := by decide +kernel

theorem witness_FocusSteps :
    let f (st : FocusState) (n : Nat) (p : Option Nat) : State := { start with
      focus := { start.focus with state := st, refSteps := n, pos := p, target := 3 } }
    ((f .referencing 8702 none).focus.state = .referencing ∧ (f .referencing 8702 none).focus.refSteps < 8703)
    ∧ (f .referencing 8703 none).focus.refSteps = 8703
    ∧ ((f .moving 0 (some 4)).focus.state = .moving ∧ (f .moving 0 (some 4)).focus.pos = some 4
        ∧ (f .moving 0 (some 4)).focus.holder = .none
        ∧ ∀ k : Fin 4, (f .moving 0 (some 4)).cues[k].enable = false)
    ∧ (let h (holder : FocusHolder) (host : Option HostFocus) (op : Option ShotOp) : State :=
        taken (.focusMove 5 3 4) { f .moving 0 (some 4) with
          focus := { (f .moving 0 (some 4)).focus with holder := holder, host := host }
          shots := { start.shots with op := op } }
      (h .host (some ⟨5, 3, 4, true⟩) none).focus.host = some ⟨5, 3, 4, true⟩
        ∧ (h .host (some ⟨5, 3, 4, true⟩) none).unit.slots[(5 : Fin 32)].state = .running
        ∧ (h .host (some ⟨5, 3, 4, true⟩) none).focus.target = 3
        ∧ (h .recall none (some (.moving ⟨.press, someShot, false, false, false, false⟩))).focus.holder = .recall
        ∧ (f .moving 0 (some 5)).focus.target ≠ 4) := by decide +kernel

/-- The step that reaches the target of a recall whose other two axes have settled. -/
theorem witness_FocusSteps_settled :
    let r : Recall := ⟨.request 5, someShot, true, true, false, true⟩
    let f : State := taken (.shotRecall 5) { start with
      focus := { start.focus with state := .moving, pos := some 899, target := 900, holder := .recall }
      shots := { start.shots with op := some (.moving r), banks := [someShot] } }
    f.focus.state = .moving ∧ f.focus.pos = some 899 ∧ f.focus.target = 899 + 1 ∧ f.focus.holder = .recall
      ∧ (∀ k : Fin 4, f.cues[k].enable = false) ∧ f.shots.op = some (.moving r) ∧ r.zoomDone = true
      ∧ r.irisDone = true ∧ r.source = .request 5 ∧ f.unit.slots[(5 : Fin 32)].state = .running := by decide +kernel

theorem witness_FocusAndIrisRequests :
    let m : Instr := .focusMove 0 9000 17
    let f (st : FocusState) (h : FocusHolder) : State := asked m { start with
      focus := { start.focus with state := st, holder := h, pos := some 4 } }
    let i : Instr := .irisSet 0 256
    let s (h : Holder) : State := asked i { start with iris := { start.iris with holder := h } }
    (isStarted 0 m (f .referencing .none) = true ∧ (f .referencing .none).focus.state = .referencing)
    ∧ (f .fault .none).focus.state = .fault
    ∧ ((f .idle .operator).focus.state = .idle ∧ (f .idle .operator).focus.holder = .operator)
    ∧ (f .idle .recall).focus.holder = .recall
    ∧ (isStarted 0 m (f .idle .none) = true ∧ (f .idle .none).focus.host = none
        ∧ (f .idle .none).focus.pos = some 4 ∧ 4 ≠ min 9000 (f .idle .none).focus.near)
    ∧ (isStarted 0 i (s .operator) = true ∧ (s .operator).iris.holder = .operator)
    ∧ (s .recall).iris.holder = .recall
    ∧ (isStarted 0 i (s .none) = true ∧ (s .none).iris.host = none)
    ∧ (let q : State := { asked m start with
          focus := { start.focus with state := .idle, pos := some 8191, target := 8191, holder := .tracking } }
      isStarted 0 m q = true ∧ q.focus.host = none ∧ 8191 = min 9000 q.focus.near ∧ q.focus.holder = .tracking)
    ∧ (let c (p : Nat) : State := taken (.irisSet 5 30) { start with
          iris := { start.iris with
            holder := .host, host := some ⟨5, 30, true⟩, pos := some p, command := some 40, target := some 30 }
          scan := { start.scan with grants := [.irisHall] } }
      ((c 31).scan.grants.contains .irisHall = true ∧ (c 31).iris.holder = .host
        ∧ (c 31).iris.host = some ⟨5, 30, true⟩ ∧ (c 31).iris.target = some 30 ∧ (c 31).iris.command = some 40
        ∧ (c 31).unit.slots[(5 : Fin 32)].state = .running ∧ (c 31).iris.settle < 49)
      ∧ (((31 : Nat) : Int) - (30 : Nat)).natAbs ≤ 1 ∧ 1 < (((32 : Nat) : Int) - (30 : Nat)).natAbs
      ∧ (496 : BitVec 12).toNat / 16 = 31 ∧ (512 : BitVec 12).toNat / 16 = 32
      ∧ (c 31).clock.preset = none ∧ (∀ k : Fin 4, (c 31).cues[k].enable = false)
      ∧ (c 31).recorder.state = .standby) := by decide +kernel

/-- A MOVING focus under each holder, and host requests that a newer one preempts. -/
theorem witness_FocusAndIrisRequests_preempt :
    let m (target : BitVec 16) : Instr := .focusMove 0 target 0
    let f (target : BitVec 16) (h : FocusHolder) : State := asked (m target) (taken (.focusMove 5 9 4) { start with
      focus := { start.focus with
        state := .moving, pos := some 4, target := 9, holder := h
        host := if h = .host then some ⟨5, 9, 4, false⟩ else none } })
    let i : Instr := .irisSet 0 30
    let s (present : Nat) : State := asked i (taken (.irisSet 5 9) { start with iris := { start.iris with
      target := some present, holder := .host, host := some ⟨5, 9, false⟩, settle := 7 } })
    (isStarted 0 (m 4) (f 4 .host) = true ∧ (f 4 .host).focus.state = .moving ∧ (f 4 .host).focus.pos = some 4
        ∧ 4 = min 4 (f 4 .host).focus.near ∧ (f 4 .host).focus.host = some ⟨5, 9, 4, false⟩
        ∧ (f 4 .host).unit.slots[(5 : Fin 32)].state = .running)
    ∧ (isStarted 0 (m 8) (f 8 .host) = true ∧ 4 ≠ min 8 (f 8 .host).focus.near)
    ∧ ((f 8 .operator).focus.holder = .operator ∧ (f 8 .recall).focus.holder = .recall
        ∧ (f 8 .recall).focus.state = .moving ∧ (f 8 .tracking).focus.host = none)
    ∧ (isStarted 0 i (s 9) = true ∧ (s 9).iris.holder = .host ∧ (s 9).iris.host = some ⟨5, 9, false⟩
        ∧ (s 9).unit.slots[(5 : Fin 32)].state = .running ∧ (s 9).iris.target = some 9 ∧ 9 ≠ min 30 255)
    ∧ (s 30).iris.target = some (min 30 255) := by decide +kernel

theorem witness_LensStopEndsHostRequests :
    let s : State := asked (.lensStop 0) (slotIn 4 ⟨.running, some (.zoomMove 4 9 9)⟩
      (slotIn 6 ⟨.running, some (.focusMove 6 9 9)⟩ (taken (.irisSet 5 30) { start with
        zoom := { start.zoom with holder := .host, host := some ⟨4, .move 9 9, false⟩ }
        focus := { start.focus with holder := .host, host := some ⟨6, 9, 9, false⟩ }
        iris := { start.iris with holder := .host, host := some ⟨5, 30, false⟩ } })))
    let r (source : ShotSource) : Recall := ⟨source, someShot, false, false, false, false⟩
    let q (source : ShotSource) : State := asked (.lensStop 0) (taken (.shotRecall 5) { start with
      shots := { start.shots with op := some (.moving (r source)) }
      zoom := { start.zoom with holder := .recall }, focus := { start.focus with holder := .recall } })
    (isStarted 0 (.lensStop 0) (asked (.lensStop 0) start) = true ∧ start.iris.host = none ∧ start.zoom.host = none
      ∧ start.focus.host = none ∧ start.shots.op = none)
    ∧ (isStarted 0 (.lensStop 0) s = true ∧ s.shots.op = none
      ∧ (∀ k ∈ ([4, 6, 5] : List (Fin 32)), s.unit.slots[k].state = .running) ∧ [4, 6, (5 : Fin 32)].Nodup)
    ∧ (isStarted 0 (.lensStop 0) (q (.request 5)) = true ∧ (q (.request 5)).zoom.holder = .recall
      ∧ (q (.request 5)).shots.op = (some (r (.request 5))).map ShotOp.moving
      ∧ (q (.request 5)).unit.slots[(5 : Fin 32)].state = .running)
    ∧ (q .press).shots.op = (some (r .press)).map ShotOp.moving := by decide +kernel

theorem witness_TrackingRequests :
    let l : Instr := .loadLensTables 0 4
    let s : State := taken (.loadLensTables 5 4) { start with track := { start.track with load := some 5 } }
    let k (e : Byte) (t : Option (List Nat)) (on : Bool) : State := asked (.setTracking 0 e)
      { start with track := { start.track with table := t, on := on } }
    (isStarted 0 l (asked l start) = true ∧ (4 : BitVec 32).toNat % 4 = 0 ∧ start.track.load = none)
    ∧ (s.track.load = some 5 ∧ s.unit.slots[(5 : Fin 32)].state = .running)
    ∧ (isStarted 0 (.loadLensTables 0 2) (asked (.loadLensTables 0 2) start) = true ∧ (2 : BitVec 32).toNat % 4 ≠ 0
      ∧ isStarted 0 l (asked l s) = true ∧ (asked l s).track.load ≠ none)
    ∧ (LensBlock.ofBytes goodBlock).firstFailure = 0
    ∧ (LensBlock.ofBytes []).firstFailure ≠ 0
    ∧ isStarted 0 (.setTracking 0 2) (k 2 none false) = true
    ∧ (isStarted 0 (.setTracking 0 1) (k 1 none false) = true ∧ (k 1 none false).track.table = none)
    ∧ ((k 1 (some []) true).track.table ≠ none ∧ (k 1 (some []) true).track.on = true)
    ∧ (isStarted 0 (.setTracking 0 0) (k 0 none false) = true ∧ (k 0 none false).track.on = false)
    ∧ (k 0 none true).track.on = true
    ∧ ((k 1 (some []) false).track.table = some [] ∧ (k 1 (some []) false).track.on = false)
    ∧ (let tab (v : Nat) : List Nat := (List.range 153).map fun i => v + 100 * (i / 17)
      (0 < (tab 10).getD 0 0) ∧ (tab 10).getD 136 0 < 900 ∧ (tab 10).getD 17 0 ≤ 150 ∧ 150 ≤ (tab 10).getD 34 0) := by
  decide +kernel

/-- For each check of R62 a block of which it is the first to fail: the good one with two bytes written over. -/
theorem witness_TrackingRequests_checks :
    let bad (i : Nat) : List Byte := (goodBlock.take i ++ [255, 255]) ++ goodBlock.drop (i + 2)
    let half (bytes : List Byte) (i : Nat) : Nat := (byteAt bytes i).toNat + 256 * (byteAt bytes (i + 1)).toNat
    let focal (b : List Byte) (k : Nat) : Nat := half b (4 * k) + 65536 * half b (4 * k + 2)
    let table (b : List Byte) (r k : Nat) : Nat := half b (68 + 2 * (17 * r + k))
    let check1 (b : List Byte) : Bool := ((List.range 17).all fun k => decide (1000 ≤ focal b k ∧ focal b k ≤ 1000000))
      && (List.range 16).all fun k => decide (focal b k ≤ focal b (k + 1))
    let check2 (b : List Byte) : Bool :=
      (List.range 8).all fun r => (List.range 17).all fun k => decide (table b r k ≤ table b (r + 1) k)
    let check3 (b : List Byte) : Bool :=
      (List.range 9).all fun r => (List.range 17).all fun k => decide (table b r k ≤ 8191)
    let check4 (b : List Byte) : Bool :=
      decide (half b 374 ≤ 4095 ∧ half b 376 ≤ 4095 ∧ half b 374 + 256 ≤ half b 376)
    let check5 (b : List Byte) : Bool :=
      decide (half b 378 ≤ 4095 ∧ half b 380 ≤ 4095 ∧ half b 378 < half b 380)
    let check6 (b : List Byte) : Bool := decide (half b 382 ≤ 8191)
    let passes (b : List Byte) : List Bool := [check1 b, check2 b, check3 b, check4 b, check5 b, check6 b]
    passes goodBlock = [true, true, true, true, true, true]
    ∧ (passes (bad 2)).take 1 = [false] ∧ (passes (bad 68)).take 2 = [true, false]
    ∧ (passes (bad 340)).take 3 = [true, true, false] ∧ (passes (bad 374)).take 4 = [true, true, true, false]
    ∧ (passes (bad 378)).take 5 = [true, true, true, true, false]
    ∧ passes (bad 382) = [true, true, true, true, true, false] := by decide +kernel

theorem witness_PushesReachTheStack :
    let s (banks spill : Nat) (refuse : Bool) : State := asked (.shotPush 0) (lensReady { start with
      shots := { start.shots with banks := List.replicate banks someShot, spill := spill, refuse := refuse } })
    let w : State := taken (.shotPush 5) { s 8 0 false with shots := { (s 8 0 false).shots with
      op := some (.push (.request 5)), transfers := [⟨0x4000, some someShot, true⟩] } }
    (isStarted 0 (.shotPush 0) (asked (.shotPush 0) start) = true ∧ start.zoom.z = none ∧ start.iris.pos = none
      ∧ ({ start.focus with state := .fault } : Focus).state ≠ .idle
      ∧ ({ start.focus with state := .fault } : Focus).state ≠ .moving)
    ∧ (isStarted 0 (.shotPush 0) (s 7 0 false) = true ∧ (s 7 0 false).shots.op = none
        ∧ (s 7 0 false).zoom.z = some 1000 ∧ (s 7 0 false).iris.pos = some 100
        ∧ (s 7 0 false).focus.pos = some 500 ∧ (s 7 0 false).focus.state = .idle
        ∧ (s 7 0 false).shots.depth < 32 ∧ (s 7 0 false).shots.banks.length < 8)
    ∧ 32 ≤ (s 8 24 false).shots.depth
    ∧ (8 ≤ (s 8 0 true).shots.banks.length ∧ (s 8 0 true).shots.refuse = true)
    ∧ ((s 8 23 false).shots.depth < 32 ∧ 8 ≤ (s 8 23 false).shots.banks.length
        ∧ (s 8 23 false).shots.refuse = false)
    ∧ (w.shots.op = some (.push (.request 5)) ∧ w.shots.transfers = [⟨0x4000, some someShot, true⟩]
        ∧ w.unit.slots[(5 : Fin 32)].state = .running) := by decide +kernel

/-- The three axes of the ready lens are free for the shot. -/
theorem axesFree_someShot (s : State) (h1 : s.zoom = (lensReady start).zoom) (h2 : s.focus = (lensReady start).focus)
    (h3 : s.iris = (lensReady start).iris) : axesFree someShot s := by
  unfold axesFree
  rw [h1, h2, h3]
  exact ⟨by decide +kernel, by decide +kernel, by decide +kernel, by decide +kernel, by decide +kernel,
    by decide +kernel, by decide +kernel, by decide +kernel, ⟨1000, by decide +kernel, by decide +kernel⟩,
    ⟨500, by decide +kernel, by decide +kernel⟩⟩

theorem witness_RecallsMoveTheLens :
    let s (b : List Shot) (spill : Nat) (op : Option ShotOp) : State := asked (.shotRecall 0) (lensReady
      { start with shots := { start.shots with banks := b, spill := spill, op := op } })
    let r : State := taken (.shotRecall 5) (lensReady { start with shots := { start.shots with
      op := some (.reading (.request 5)), transfers := [⟨0x4000, none, true⟩] } })
    (isStarted 0 (.shotRecall 0) (s [] 0 (some (.push .press))) = true
      ∧ (s [] 0 (some (.push .press))).shots.op ≠ none)
    ∧ (isStarted 0 (.shotRecall 0) (s [] 0 none) = true ∧ (s [] 0 none).shots.op = none
        ∧ (s [] 0 none).shots.spill = 0 ∧ (s [] 0 none).shots.banks = [])
    ∧ (isStarted 0 (.shotRecall 0) (s [] 1 none) = true ∧ 0 < (s [] 1 none).shots.spill)
    ∧ (isStarted 0 (.shotRecall 0) (s [someShot] 0 none) = true
        ∧ (s [someShot] 0 none).shots.banks = [] ++ [someShot] ∧ axesFree someShot (s [someShot] 0 none))
    ∧ (r.shots.op = some (.reading (.request 5)) ∧ r.shots.transfers = [⟨0x4000, none, true⟩]
        ∧ r.unit.slots[(5 : Fin 32)].state = .running
        ∧ (let bytes := spillBytes someShot
          let half (i : Nat) : Nat := (byteAt bytes i).toNat + 256 * (byteAt bytes (i + 1)).toNat
          (⟨min (half 0) 4095, min (half 2) 8191, min (half 4) 2048, (byteAt bytes 6).toNat,
            byteAt bytes 7 != 0⟩ : Shot) = someShot)
        ∧ axesFree someShot r)
    ∧ ({ start.shots with transfers := [⟨0x4000, none, false⟩] } : Shots).transfers = [⟨0x4000, none, false⟩] := by
  refine ⟨?_, ?_, ?_, ⟨?_, ?_, axesFree_someShot _ rfl rfl rfl⟩,
    ⟨?_, ?_, ?_, ?_, axesFree_someShot _ rfl rfl rfl⟩, rfl⟩ <;>
    decide +kernel

/-- Claims that the operator's hold of each axis refuses, and claims that preempt host requests on all three. -/
theorem witness_RecallsMoveTheLens_claims :
    let s (z : Holder) (f : FocusHolder) (i : Holder) : State := slotIn 7 ⟨.running, some (.irisSet 7 9)⟩
      (slotIn 6 ⟨.running, some (.focusMove 6 9 9)⟩ (taken (.zoomMove 5 9 9) (asked (.shotRecall 0)
        { lensReady start with
          zoom := { (lensReady start).zoom with holder := z, host := some ⟨5, .move 9 9, false⟩ }
          focus := { (lensReady start).focus with holder := f, host := some ⟨6, 9, 9, false⟩ }
          iris := { (lensReady start).iris with holder := i, host := some ⟨7, 9, false⟩ }
          shots := { start.shots with banks := [someShot] } })))
    let h := s .host .host .host
    let r : State := slotIn 0 ⟨.running, some (.shotRecall 0)⟩ { h with shots := { h.shots with
      op := some (.reading (.request 0)), transfers := [⟨0x4000, none, true⟩] } }
    (isStarted 0 (.shotRecall 0) h = true ∧ h.shots.op = none ∧ h.shots.spill = 0
        ∧ h.shots.banks = [] ++ [someShot])
    ∧ (claimable 0 (s .operator .host .host) ∧ (s .operator .host .host).zoom.holder = .operator)
    ∧ (claimable 0 (s .host .operator .host) ∧ (s .host .operator .host).zoom.holder ≠ .operator
        ∧ (s .host .operator .host).focus.holder = .operator)
    ∧ (claimable 0 (s .host .tracking .operator) ∧ (s .host .tracking .operator).zoom.holder ≠ .operator
        ∧ (s .host .tracking .operator).focus.holder ≠ .operator
        ∧ (s .host .tracking .operator).iris.holder = .operator)
    ∧ (claimable 0 h ∧ h.zoom.holder ≠ .operator ∧ h.focus.holder ≠ .operator ∧ h.iris.holder ≠ .operator
        ∧ (∀ z, h.zoom.z = some z → 4 < ((clampNat h.zoom.softMin h.zoom.softMax someShot.z : Nat) - (z : Int)).natAbs)
        ∧ h.focus.pos ≠ some (min someShot.focus h.focus.near)
        ∧ h.iris.target ≠ none ∧ h.iris.target ≠ some someShot.iris)
    ∧ (claimable 0 r ∧ r.shots.op = some (.reading (.request 0)) ∧ r.shots.transfers = [⟨0x4000, none, true⟩]
        ∧ r.unit.slots[(0 : Fin 32)].state = .running) := by
  refine ⟨?_, ?_, ?_, ?_, ⟨?_, ?_, ?_, ?_, ?_, ?_⟩, ?_⟩
  case refine_9 => intro z hz; cases hz; decide +kernel
  all_goals (try unfold claimable); decide +kernel

theorem witness_StackRequestsAndPress :
    let c (op : Option ShotOp) : State := asked (.shotClear 0) { start with shots := { start.shots with op := op } }
    let p : State := lensReady { start with
      shots := { start.shots with press := some ⟨.line, some 0, false⟩ } }
    (isStarted 0 (.shotClear 0) (c (some (.push .press))) = true ∧ (c (some (.push .press))).shots.op ≠ none)
    ∧ (isStarted 0 (.shotClear 0) (c none) = true ∧ (c none).shots.op = none)
    ∧ isStarted 0 (.setShotPolicy 0 1) (asked (.setShotPolicy 0 1) start) = true
    ∧ isStarted 0 (.setShotPolicy 0 2) (asked (.setShotPolicy 0 2) start) = true
    ∧ (p.shots.press = some ⟨.line, some 0, false⟩ ∧ p.shots.op = none ∧ p.zoom.z = some 1000
        ∧ p.iris.pos = some 100 ∧ p.focus.pos = some 500 ∧ p.focus.state = .idle
        ∧ p.shots.banks.length < 8 ∧ p.shots.depth < 32) := by decide +kernel

/-! ### Witnesses: stabiliser -/

theorem witness_StabiliserModesAndParameters :
    let m (b : Byte) (k : StabMode) (st : StabState) : State := asked (.stabMode 0 b)
      { start with stab := { start.stab with mode := k, state := st } }
    let p : Instr := .stabParams 0 0 8192 16 49 2001
    let s : State := { start with stab := { start.stab with state := .settling, settling := 199 } }
    isStarted 0 (.stabMode 0 3) (m 3 .on .active) = true
    ∧ (isStarted 0 (.stabMode 0 2) (m 2 .held .held) = true ∧ StabMode.ofCode (2 : Byte).toNat = some .held
        ∧ (m 2 .held .held).stab.mode = .held)
    ∧ (isStarted 0 (.stabMode 0 0) (m 0 .on .active) = true ∧ (m 0 .on .active).stab.mode ≠ .off
        ∧ (m 0 .on .active).stab.state ≠ .calibrating ∧ (m 0 .on .active).stab.state ≠ .off)
    ∧ (isStarted 0 (.stabMode 0 1) (m 1 .off .off) = true ∧ (m 1 .off .off).stab.mode = .off
        ∧ (m 1 .off .off).stab.state = .off)
    ∧ (isStarted 0 (.stabMode 0 2) (m 2 .on .panning) = true ∧ (m 2 .on .panning).stab.mode ≠ .held
        ∧ (m 2 .on .panning).stab.state ≠ .calibrating)
    ∧ (isStarted 0 (.stabMode 0 1) (m 1 .held .held) = true ∧ (m 1 .held .held).stab.mode = .held
        ∧ (m 1 .held .held).stab.state = .held)
    ∧ (isStarted 0 p (asked p start) = true ∧ start.stab.state.computes = false)
    ∧ (isStarted 0 p (asked p (m 0 .on .active)) = true ∧ (asked p (m 0 .on .active)).stab.state = .active)
    ∧ (s.stab.state = .settling ∧ s.stab.settling = 199) := by decide +kernel

theorem witness_CalibrationMeasuresTheBias :
    let c : Calibration := ⟨5, 4000, ⟨4000 * 2048, 2028, 2068⟩, ⟨3999 * 2048, 2048, 2048⟩⟩
    let s : State := taken (.stabCalibrate 5) { start with
      stab := { start.stab with state := .calibrating, cal := some c }
      scan := { start.scan with grants := [.yawGyro, .pitchGyro] } }
    isStarted 0 (.stabCalibrate 0) (asked (.stabCalibrate 0) start) = true
    ∧ (s.stab.state = .calibrating ∧ s.stab.cal = some c ∧ c.frames = 4000
        ∧ s.scan.grants.contains .pitchGyro = true ∧ s.unit.slots[(5 : Fin 32)].state = .running) := by
  decide +kernel

/-- The first scan frame of a calibration, a sample before it, and the first and the last samples collected. -/
theorem witness_CalibrationMeasuresTheBias_collect :
    let c (n : Nat) : Calibration := ⟨5, n, ⟨0, 4095, 0⟩, ⟨0, 4095, 0⟩⟩
    let s (n : Nat) : State := { start with
      stab := { start.stab with state := .calibrating, cal := some (c n) }
      scan := { start.scan with grants := [.yawGyro, .pitchGyro] } }
    ((s 0).stab.state = .calibrating ∧ (s 0).stab.cal = some (c 0) ∧ (c 0).frames ≤ 4000)
    ∧ (s 0).scan.grants.contains .pitchGyro = true ∧ (c 3999).frames < 4000 ∧ (c 0).frames = 0
    ∧ (s 4000).scan.grants.contains .yawGyro = true ∧ (s 4000).stab.cal = some (c 4000) := by decide +kernel

theorem witness_PanBeginsAndEnds :
    let s (st : StabState) (y : StabAxis) : State := { start with
      stab := { start.stab with state := st, yaw := y }
      scan := { start.scan with grants := [.yawGyro, .pitchGyro] } }
    let y : StabAxis := { start.stab.yaw with inPan := true, quietCount := 199 }
    ((s .active start.stab.yaw).scan.grants.contains (gyroChannel .yaw) = true
      ∧ (s .active start.stab.yaw).stab.state = .active
      ∧ ((s .active start.stab.yaw).stab.axis .yaw).inPan = false ∧ (4095 : BitVec 12) = 4095)
    ∧ ((s .panning y).stab.state = .panning ∧ ((s .panning y).stab.axis .yaw).inPan = true
      ∧ ((s .panning y).stab.axis .yaw).quietCount = 199 ∧ Axis.yaw ≠ .pitch
      ∧ ((s .panning y).stab.axis .pitch).inPan = false ∧ (2048 : BitVec 12) ≠ 0
      ∧ (2048 : BitVec 12) ≠ 4095
      ∧ (sampleRate .yaw 2048 (s .panning y)).natAbs < 100)
    ∧ (let y39 : StabAxis := { start.stab.yaw with rateCount := 39 }
      let y199 : StabAxis := { start.stab.yaw with satCount := 199, acc := 2 ^ 30 }
      39 ≤ ((s .active y39).stab.axis .yaw).rateCount
      ∧ (s .active y39).stab.panThreshold ≤ (sampleRate .yaw 2448 (s .active y39)).natAbs
      ∧ 199 ≤ ((s .panning y199).stab.axis .yaw).satCount
      ∧ (s .panning y199).stab.stroke < (sampleShift .yaw 2048 (s .panning y199)).natAbs)
    ∧ (s .off y).stab.state = .off ∧ (s .held y).stab.state = .held
    ∧ (s .settling y).stab.state = .settling
    ∧ (s .settling y).scan.grants.contains .pitchGyro = true := by decide +kernel

/-! ### Witnesses: cards and recording -/

theorem witness_MountsReadTheHeader :
    let k : Card := { Card.powerOn with state := .mounting }
    let s (op : Option LinkOp) : State := { start with cardB := { k with op := op } }
    let edge (i : Fin 7) (level : Bool) (s : State) : State := { s with
      lines := put s.lines i { s.lines[i] with raw := level, timer := some 0 } }
    let f : State := edge 1 false (taken (.formatCard 5 1)
      { start with cardB := { k with state := .formatting, format := some 5 } })
    ((card .b (s none)).state = .mounting ∧ (card .b (s none)).op = none)
    ∧ (card .b (s (some ⟨.headerRead, 0, 0, none, true⟩))).op = some ⟨.headerRead, 0, 0, none, true⟩
    ∧ (1 ≤ 16777215 ∧ 16777215 ≤ 16777215 ∧ 16777215 ≤ 16777215 ∧ 9999 ≤ 9999)
    ∧ 16777215 < 16777216
    ∧ ((edge 1 true start).lines[(1 : Fin 7)].timer ≠ none ∧ (edge 1 true start).lines[(1 : Fin 7)].raw = true
        ∧ (card .b (edge 1 true start)).state = .empty)
    ∧ ((edge 1 false (s none)).lines[(1 : Fin 7)].raw = false ∧ (card .b (edge 1 false (s none))).state ≠ .empty
        ∧ openClip (s none) = none ∧ (card .b (s none)).queue = [] ∧ (card .b (s none)).index = none
        ∧ (card .b (s none)).format = none)
    ∧ ((card .b f).format = some 5 ∧ f.unit.slots[(5 : Fin 32)].state = .running ∧ openClip f = none
        ∧ (card .b f).state ≠ .empty)
    ∧ ((edge 3 true start).lines[(3 : Fin 7)].timer ≠ none
        ∧ (edge 3 true start).lines[(3 : Fin 7)].raw = true) := by decide +kernel

/-- Removals of card A with a clip: outside the clip, from a MIRROR clip that goes on and from one that breaks, from a
RELAY clip with the other card ready, full of reservations and absent, in DRAINING, and with an index pending. -/
theorem witness_MountsReadTheHeader_removal :
    let e (length : Nat) : QueueEntry := ⟨⟨3, 0, 0, length, 1⟩, 0, 1⟩
    let x (b : Side) : EssenceExtent := ⟨none, 7, some 0, .queued, b⟩
    let r : IndexRecord := ⟨7, ⟨0, 0, 0, 0⟩, ⟨0, 0, 0, 1⟩, 2, [], false, false, false, []⟩
    let s (b : Side) (length : Nat) (f : Recorder → Recorder) : State :=
      slotIn 3 ⟨.running, some (.writeEssence 3 [])⟩ (rec (fun z => f { z with essences := [⟨3, 1, [x b]⟩] })
        { recording start with
          cardA := { readyCard with state := .active, queue := [e length] }, cardB := readyCard
          lines := put start.lines 0 { start.lines[(0 : Fin 7)] with raw := false, timer := some 0 } })
    let bare (f : Recorder → Recorder) : State := { s .none 1 f with
      cardA := { readyCard with state := .active } }
    let indexing (b : Bool) : State := slotIn 5 ⟨.running, some (.recStop 5)⟩ { bare (fun z => { z with
      state := .stopping, phase := some .indexing, awaitA := true, awaitB := b, stopReq := some 5
      clips := [someClip .closing] }) with cardA := { readyCard with index := some r } }
    ((s .queued 1 id).lines[(0 : Fin 7)].timer ≠ none ∧ (s .queued 1 id).lines[(0 : Fin 7)].raw = false
        ∧ (card .a (s .queued 1 id)).state ≠ .empty ∧ (card .a (s .queued 1 id)).index = none
        ∧ (card .a (s .queued 1 id)).format = none ∧ (card .a (s .queued 1 id)).queue = [e 1]
        ∧ (s .queued 1 id).recorder.phase ≠ some .draining ∧ openClip (s .queued 1 id) = some (someClip .opened)
        ∧ (s .queued 1 id).recorder.essences = [⟨3, 1, [x .queued]⟩] ∧ (x .queued).side (otherCard .a) = .queued
        ∧ (e 1).extent.slot = 3 ∧ (e 1).extent.place = 0)
    ∧ ((x .written).side (otherCard .a) = .written ∧ (x .none).side (otherCard .a) ≠ .queued ∧ (x .none).outcome = none
        ∧ (s .none 1 id).unit.slots[(3 : Fin 32)].state = .running)
    ∧ isTarget .a (s .queued 1 fun z => { z with targetA := false, targetB := true }) = false
    ∧ (let m := s .queued 1 fun z => { z with mirror := true, targetB := true }
      isTarget .a m = true ∧ m.recorder.mirror = true ∧ isTarget (otherCard .a) m = true)
    ∧ (let m := s .none 1 fun z => { z with mirror := true }
      isTarget (otherCard .a) m = false ∧ m.recorder.state = .recording ∧ m.recorder.phase = none
        ∧ m.recorder.stopReq = none ∧ m.recorder.pendingStart = none)
    ∧ ((s .none 1 id).recorder.mirror = false ∧ (card .b (s .none 1 id)).state = .ready
        ∧ (someClip .opened).spans.length < 8 ∧ (1 + 65535) / 65536 ≤ (card .b (s .none 1 id)).capacity
        ∧ (card .b (s .none 1 id)).capacity < (2 ^ 29 + 65535) / 65536 ∧ (someClip .opened).marks.length < 16
        ∧ (s .none (2 ^ 29) id).recorder.pendingStop = none)
    ∧ ({ s .none 1 id with cardB := Card.powerOn } : State).cardB.state ≠ .ready
    ∧ (let d := { bare (fun z => { z with phase := some .draining, state := .stopping }) with cardB := readyCard }
      (card .a d).queue = [] ∧ clipQueued (someClip .opened).serial d = true ∧ isTarget (otherCard .a) d = false)
    ∧ ((card .a (indexing true)).index = some r ∧ (card .a (indexing true)).queue = []
        ∧ isTarget .a (indexing true) = true ∧ (indexing true).recorder.phase = some .indexing
        ∧ openClip (indexing true) = some (someClip .closing) ∧ (indexing true).recorder.awaitB = true)
    ∧ ((indexing false).recorder.awaitB = false ∧ isTarget (otherCard .a) (indexing false) = false
        ∧ (indexing false).recorder.state = .stopping ∧ (indexing false).recorder.restart = false
        ∧ (indexing false).recorder.after = [] ∧ (indexing false).recorder.stopReq = some 5
        ∧ (indexing false).unit.slots[(5 : Fin 32)].state = .running) := by decide +kernel

theorem witness_FormatErasesTheCard :
    let s (st : CardState) : State := asked (.formatCard 0 0) { start with cardA := { readyCard with state := st } }
    let f : State := taken (.formatCard 5 1) { start with
      cardB := { readyCard with state := .formatting, op := some ⟨.format, 0, 0, none, true⟩, format := some 5 } }
    (isStarted 0 (.formatCard 0 0) (s .empty) = true ∧ (s .empty).cardA.state = .empty)
    ∧ (card .a (s .active)).state = .active
    ∧ ((card .a (s .ready)).state = .ready ∧ (card .a (s .ready)).busy = false
        ∧ openClipOn .a (s .ready) = false)
    ∧ ((card .b f).state = .formatting ∧ (card .b f).op = some ⟨.format, 0, 0, none, true⟩
        ∧ (card .b f).format = some 5 ∧ f.unit.slots[(5 : Fin 32)].state = .running) := by decide +kernel

/-- A slot above 1, a FAULT card that is protected, a card that is busy or spanned, and a FULL or FAULT card that is
neither. -/
theorem witness_FormatErasesTheCard_cases :
    let s (st : CardState) (op : Option LinkOp) : State := asked (.formatCard 0 0) { start with
      cardA := { readyCard with state := st, op := op } }
    let locked (x : State) : State := { x with lines := put x.lines 2 { x.lines[(2 : Fin 7)] with debounced := true } }
    let busy (x : State) : Bool := !x.cardA.queue.isEmpty || x.cardA.op.isSome || x.cardA.index.isSome
    let spanned (x : State) : Bool := (openClip x).any fun k => k.spans.any fun span => span.card == .a
    (isStarted 0 (.formatCard 0 2) (asked (.formatCard 0 2) start) = true ∧ 1 < (2 : Byte).toNat)
    ∧ ((locked (s .fault none)).cardA.state = .fault ∧ isProtected .a (locked (s .fault none)) = true)
    ∧ (isProtected .a (s .fault none) = false ∧ busy (s .fault none) = false ∧ spanned (s .fault none) = false)
    ∧ (busy (s .full none) = false ∧ spanned (s .full none) = false ∧ (s .full none).cardA.state = .full)
    ∧ busy (s .fault (some ⟨.blockWrite, 1, 0, none, false⟩)) = true
    ∧ spanned (recording (s .full none)) = true := by decide +kernel

/-- The cards that an index request finds: ready and idle, writing, and in FAULT. -/
theorem witness_CardWritesEnd_index :
    let i (st : CardState) (op : Option LinkOp) : State :=
      { recording start with cardA := { readyCard with state := st, op := op } }
    ((card .a (i .ready none)).state = .ready ∧ (card .a (i .ready none)).op = none
      ∧ (card .a (i .ready none)).queue = [])
    ∧ (card .a (i .active (some ⟨.blockWrite, 9, 0, none, true⟩))).op ≠ none
    ∧ ((card .a (i .fault none)).state = .fault ∧ openClip (i .fault none) = some (someClip .opened)) := by
  decide +kernel

theorem witness_CardWritesEnd :
    let e : QueueEntry := ⟨⟨3, 0, 0, 65536, 1⟩, 0, 1⟩
    let r : IndexRecord := ⟨7, ⟨0, 0, 0, 0⟩, ⟨0, 0, 0, 1⟩, 2, [], false, false, false, []⟩
    let k : Card := { readyCard with state := .active }
    let s : State := { start with cardA := { k with queue := [e], reserved := 1, op := some ⟨.blockWrite, 0, 0, none, true⟩ } }
    let x : State := rec (fun z => { z with awaitB := true })
      { start with cardA := { k with index := some r, op := some ⟨.indexWrite, 9, 0, none, true⟩ } }
    let w : State := slotIn 3 ⟨.running, some (.writeEssence 3 [])⟩ (rec (fun z => { z with
        essences := [⟨3, 1, [⟨none, 7, some 0, .queued, .none⟩]⟩] })
      { recording start with cardA := s.cardA, cardB := readyCard })
    let y : State := slotIn 3 ⟨.running, some (.recStop 3)⟩ (rec (fun z => { z with
        state := .stopping, phase := some .indexing, awaitA := true, awaitB := false, targetA := true
        stopReq := some 3, clips := [someClip .closing] }) x)
    ((card .a s).state = .active ∧ (card .a s).op = some ⟨.blockWrite, 0, 0, none, true⟩ ∧ (card .a s).queue = [e]
      ∧ (card .a s).index = none ∧ s.recorder.phase = none)
    ∧ ((card .a s).state ≠ .fault ∧ openClip s = none)
    ∧ ((card .b s).op = none ∧ (card .b s).queue = [])
    ∧ ((card .a x).state = .active ∧ (card .a x).op = some ⟨.indexWrite, 9, 0, none, true⟩ ∧ (card .a x).queue = []
        ∧ (card .a x).index = some r
        ∧ (if CardSlot.a = .a then x.recorder.awaitB else x.recorder.awaitA) = true)
    ∧ ((card .a w).state = .active ∧ (card .a w).op = some ⟨.blockWrite, 0, 0, none, true⟩ ∧ (card .a w).queue = [e]
        ∧ (card .a w).index = none ∧ w.recorder.state = .recording ∧ w.recorder.phase = none
        ∧ w.recorder.mirror = false ∧ isTarget .a w = true ∧ isTarget (otherCard .a) w = false
        ∧ openClip w = some (someClip .opened) ∧ (card .b w).state = .ready ∧ (someClip .opened).spans.length < 8
        ∧ (e.extent.length + 65535) / 65536 ≤ (card .b w).capacity ∧ (card .b w).queue.length < 512)
    ∧ ((card .b { w with cardB := Card.powerOn }).state ≠ .ready
        ∧ w.recorder.stopReq = none ∧ w.recorder.pendingStart = none
        ∧ w.recorder.essences = [⟨3, 1, [⟨none, 7, some 0, .queued, .none⟩]⟩]
        ∧ e.extent.slot = 3 ∧ e.extent.place = 0 ∧ w.unit.slots[(3 : Fin 32)].state = .running)
    ∧ ((rec (fun z => { z with stopReq := some 5 }) w).recorder.stopReq = some 5)
    ∧ ((card .a y).state = .active ∧ (card .a y).op = some ⟨.indexWrite, 9, 0, none, true⟩
        ∧ (card .a y).index = some r ∧ y.recorder.state = .stopping ∧ y.recorder.phase = some .indexing
        ∧ (if CardSlot.a = .a then y.recorder.awaitB else y.recorder.awaitA) = false ∧ isTarget .a y = true
        ∧ isTarget (otherCard .a) y = false ∧ openClip y = some (someClip .closing)
        ∧ y.recorder.restart = false ∧ y.recorder.after = [] ∧ y.recorder.stopReq = some 3
        ∧ y.unit.slots[(3 : Fin 32)].state = .running)
    ∧ ((rec (fun z => { z with restart := true }) y).recorder.restart = true ∧ y.recorder.powerEmpty = false
        ∧ isProtected .a y = false ∧ ¬((card .a y).capacity < 64)) := by decide +kernel

/-- An INDEX_WRITE that ends with ERROR, of a target and of a card that is no target, with the other answer owed and not,
and with a restart onto the other card; and a FORMAT in flight. -/
theorem witness_CardWritesEnd_errors :
    let r : IndexRecord := ⟨7, ⟨0, 0, 0, 0⟩, ⟨0, 0, 0, 1⟩, 2, [], false, false, false, []⟩
    let y (owed target restart : Bool) : State := slotIn 3 ⟨.running, some (.recStop 3)⟩ (rec (fun z => { z with
        state := .stopping, phase := some .indexing, awaitA := true, awaitB := owed, targetA := target
        stopReq := some 3, clips := [someClip .closing], restart := restart })
      { start with
        cardA := { readyCard with state := .active, index := some r, op := some ⟨.indexWrite, 9, 0, none, true⟩ }
        cardB := readyCard })
    let f : State := slotIn 3 ⟨.running, some (.formatCard 3 0)⟩ { start with
      cardA := { readyCard with state := .formatting, op := some ⟨.format, 0, 0, none, true⟩, format := some 3 } }
    (∀ owed target restart, (card .a (y owed target restart)).state ≠ .fault
        ∧ (card .a (y owed target restart)).op = some ⟨.indexWrite, 9, 0, none, true⟩
        ∧ (card .a (y owed target restart)).queue = [] ∧ (card .a (y owed target restart)).index = some r
        ∧ (y owed target restart).recorder.state = .stopping
        ∧ (y owed target restart).recorder.phase = some .indexing
        ∧ openClip (y owed target restart) = some (someClip .closing)
        ∧ (if CardSlot.a = .a then (y owed target restart).recorder.awaitB
            else (y owed target restart).recorder.awaitA) = owed
        ∧ isTarget .a (y owed target restart) = target ∧ (y owed target restart).recorder.restart = restart)
    ∧ ((y false true false).recorder.after = [] ∧ (y false true false).recorder.stopReq = some 3
        ∧ (y false true false).unit.slots[(3 : Fin 32)].state = .running)
    ∧ ((y false true true).recorder.powerEmpty = false ∧ (card (otherCard .a) (y false true true)).state = .ready)
    ∧ ((card .a f).state = .formatting ∧ (card .a f).op = some ⟨.format, 0, 0, none, true⟩
        ∧ (card .a f).format = some 3 ∧ f.unit.slots[(3 : Fin 32)].state = .running) := by decide +kernel

theorem witness_StartsStopsAndClearHalt :
    let g : Instr := .recStart 0
    let s (i : Instr) (st : RecState) (power : Bool) : State :=
      asked i (rec (fun r => { r with state := st, powerEmpty := power }) start)
    let ready : State := { s g .prerec false with cardB := readyCard }
    let h : Instr := .recStop 0
    let a : State := rec (fun r => { r with pendingStart := some (.request 5) })
      (taken (.recStart 5) (s h .arming false))
    (isStarted 0 g (s g .halted true) = true ∧ (s g .halted true).recorder.state = .halted)
    ∧ ((s g .standby true).recorder.state ≠ .halted ∧ (s g .standby true).recorder.powerEmpty = true)
    ∧ ((s g .standby false).recorder.state = .standby ∧ (s g .standby false).recorder.powerEmpty = false
        ∧ (s g .standby false).cardA.state ≠ .ready ∧ (s g .standby false).cardB.state ≠ .ready)
    ∧ (s g .arming false).recorder.state = .arming
    ∧ ((s g .recording false).recorder.state = .recording ∧ (s g .recording false).recorder.pendingStop = none)
    ∧ (isStarted 0 g ready = true ∧ ready.recorder.state = .prerec ∧ ready.recorder.powerEmpty = false
        ∧ ready.cardB.state = .ready)
    ∧ ((s g .stopping false).recorder.state = .stopping ∧ (s g .stopping false).recorder.restart = false)
    ∧ (isStarted 0 h (s h .recording false) = true ∧ (s h .recording false).recorder.pendingStop = none)
    ∧ (isStarted 0 h a = true ∧ a.recorder.state = .arming
        ∧ a.recorder.pendingStart = some (.request 5) ∧ (5 : Fin 32) ≠ 0
        ∧ a.unit.slots[(5 : Fin 32)].state = .running ∧ a.recorder.held = [])
    ∧ (isStarted 0 h (s h .halted false) = true ∧ (s h .halted false).recorder.state = .halted)
    ∧ (isStarted 0 (.clearHalt 0) (s (.clearHalt 0) .halted false) = true
        ∧ (s (.clearHalt 0) .halted false).recorder.held = [])
    ∧ (s (.clearHalt 0) .standby false).recorder.state ≠ .halted := by decide +kernel

/-- REC_STOP in ARMING under a start of the operator, of a cue and of a request, with a held list kept, trimmed and
discarded; and both requests in STOPPING and in REC with a stop pending, the restart flag clear and set. -/
theorem witness_StartsStopsAndClearHalt_pending :
    let h : Instr := .recStop 0
    let e (frames : Nat) : Extent := ⟨3, 0, 0, 1, frames⟩
    let s (st : RecState) (source : StartSource) (restart : Bool) (limit : Nat) (l : List Extent) : State :=
      asked h (slotIn 3 ⟨.running, some (.writeEssence 3 [])⟩ (taken (.recStart 5) (rec (fun r => { r with
        state := st, pendingStart := some source, restart := restart, limit := limit, held := l, after := l
        essences := [⟨3, 1, [⟨none, 0, none, .none, .none⟩]⟩], pendingStop := some .operator }) start)))
    let sum (l : List Extent) : Nat := (l.map Extent.frames).sum
    (isStarted 0 h (s .arming .operator false 5 [e 5]) = true ∧ (s .arming .operator false 5 [e 5]).recorder.state = .arming
        ∧ (s .arming .operator false 5 [e 5]).recorder.pendingStart = some .operator
        ∧ (s .arming .cue false 5 [e 5]).recorder.pendingStart = some .cue
        ∧ (s .arming (.request 5) false 5 [e 5]).recorder.pendingStart = some (.request 5) ∧ (5 : Fin 32) ≠ 0
        ∧ (s .arming (.request 5) false 5 [e 5]).unit.slots[(5 : Fin 32)].state = .running)
    ∧ (start.clock.mode = .freeRun ∧ sum [e 5] ≤ 5 ∧ 5 < sum [e 6])
    ∧ ((∀ x ∈ (s .arming .cue false 5 [e 6]).recorder.essences, x.slot ≠ 0)
        ∧ (s .arming .cue false 5 [e 6]).recorder.essences = [⟨3, 1, [⟨none, 0, none, .none, .none⟩]⟩]
        ∧ (s .arming .cue false 5 [e 6]).recorder.pendingStart ≠ some (.request 3) ∧ (e 6).slot = 3 ∧ (e 6).place = 0
        ∧ (s .arming .cue false 5 [e 6]).unit.slots[(3 : Fin 32)].state = .running)
    ∧ ¬0 < (s .arming .cue false 0 [e 6]).recorder.limit
    ∧ ((s .stopping .cue false 5 []).recorder.state = .stopping ∧ (s .stopping .cue false 5 []).recorder.restart = false)
    ∧ ((s .stopping .cue true 5 [e 6]).recorder.restart = true ∧ (s .stopping .cue true 5 [e 6]).recorder.after = [e 6])
    ∧ ((s .recording .cue true 5 []).recorder.state = .recording
        ∧ (s .recording .cue true 5 []).recorder.pendingStop ≠ none)
    ∧ (let g : State := asked (.recStart 0) (s .recording .cue false 5 [])
      isStarted 0 (.recStart 0) g = true ∧ g.recorder.state = .recording ∧ g.recorder.pendingStop ≠ none
        ∧ g.recorder.restart = false ∧ g.recorder.powerEmpty = false) := by decide +kernel

theorem witness_EssenceIsHandledByTheState :
    let p : ExtentParam := ⟨0xFFFFFFFF, 8388608, 600⟩
    let w (l : List ExtentParam) : Instr := .writeEssence 0 l
    let s (l : List ExtentParam) (st : RecState) : State := asked (w l) (rec (fun r => { r with state := st }) start)
    let r : State := { asked (w [p]) (recording start) with cardA := { readyCard with state := .active } }
    let good : Prop := 1 ≤ p.length.toNat ∧ p.length.toNat ≤ 8388608 ∧ 1 ≤ p.frames.toNat ∧ p.frames.toNat ≤ 600
    (isStarted 0 (w []) (s [] .standby) = true ∧ 16 < (List.replicate 17 p).length
      ∧ ¬((601 : BitVec 16).toNat ≤ 600))
    ∧ (isStarted 0 (w [p]) (s [p] .standby) = true ∧ good ∧ (s [p] .standby).recorder.state = .standby
        ∧ ∀ e ∈ (s [p] .standby).recorder.essences, e.slot ≠ 0)
    ∧ (isStarted 0 (w (List.replicate 16 p)) (s (List.replicate 16 p) .arming) = true
        ∧ List.replicate 16 p ≠ [] ∧ (List.replicate 16 p).length ≤ 16
        ∧ (s (List.replicate 16 p) .arming).recorder.state = .arming)
    ∧ (isStarted 0 (w [p]) r = true ∧ r.recorder.state = .recording ∧ r.recorder.mirror = false
        ∧ r.recorder.targetA = true ∧ (∀ e ∈ r.recorder.essences, e.slot ≠ 0)
        ∧ openClip r = some (someClip .opened) ∧ r.cardA.state = .active
        ∧ (p.length.toNat + 65535) / 65536 ≤ r.cardA.free ∧ r.cardA.queue.length < 512) := by decide +kernel

/-- Extents in PREREC and in STOPPING, at the limit, one frame above it, and above it alone. -/
theorem witness_EssenceIsHandledByTheState_held :
    let p : ExtentParam := ⟨0, 1, 10⟩
    let old : Extent := ⟨5, 0, 0, 1, 20⟩
    let s (st : RecState) (restart : Bool) (limit : Nat) (l : List Extent) : State :=
      asked (.writeEssence 0 [p]) (taken (.writeEssence 5 []) (rec (fun r => { r with
        state := st, restart := restart, limit := limit, held := l, after := l
        essences := [⟨5, 1, [⟨none, 0, none, .none, .none⟩]⟩] }) start))
    let frames (l : List Extent) : Nat := (l.map Extent.frames).sum
    let e : Extent := ⟨0, 0, 0, 1, 10⟩
    (isStarted 0 (.writeEssence 0 [p]) (s .stopping true 0 []) = true ∧ p.length.toNat ≤ 8388608
        ∧ 1 ≤ p.frames.toNat ∧ p.frames.toNat ≤ 600
        ∧ (∀ x ∈ (s .stopping true 0 []).recorder.essences, x.slot ≠ 0)
        ∧ (s .stopping true 0 []).recorder.restart = true)
    ∧ ((s .stopping false 0 []).recorder.state = .stopping ∧ ¬(0 < (s .stopping false 0 []).recorder.limit)
        ∧ (s .stopping false 0 []).recorder.after = [])
    ∧ ((s .stopping false 29 [old]).recorder.restart = false ∧ 0 < (s .stopping false 29 [old]).recorder.limit
        ∧ (s .stopping false 29 [old]).clock.mode = .freeRun)
    ∧ (frames [old, e] ≤ (s .prerec false 30 [old]).recorder.limit
        ∧ (s .prerec false 30 [old]).recorder.state = .prerec)
    ∧ (frames [e] ≤ 29 ∧ 29 < frames [old, e] ∧ (s .prerec false 29 [old]).recorder.held = [old]
        ∧ (s .prerec false 29 [old]).unit.slots[(5 : Fin 32)].state = .running)
    ∧ ((s .prerec false 9 []).recorder.held = [] ∧ (s .prerec false 9 []).recorder.limit < p.frames.toNat) := by
  decide +kernel

/-- The clauses of `EssenceIsHandledByTheState` about relay, MIRROR and settlement. -/
theorem witness_EssenceIsHandledByTheState_relay :
    let p : ExtentParam := ⟨0xFFFFFFFF, 8388608, 600⟩
    let w (l : List ExtentParam) : Instr := .writeEssence 0 l
    let r : State := { asked (w [p]) (recording start) with cardA := { readyCard with state := .active } }
    let tight : State := { r with
      cardA := { r.cardA with capacity := 1 }, cardB := { readyCard with capacity := 128 } }
    let both : State := rec (fun k => { k with mirror := true, targetB := true })
      { tight with cardB := { readyCard with state := .active } }
    let q : QueueEntry := ⟨⟨3, 0, 0, 1, 1⟩, 9, 1⟩
    let clip : Clip := { someClip .closing with spans := [⟨.b, some 9, 0⟩] }
    let done (ph : Option StopPhase) : State := slotIn 3 ⟨.running, some (w [])⟩ (rec (fun k => { k with
        phase := ph, clips := [clip], essences := [⟨3, 1, [⟨none, 7, some 0, .none, .queued⟩]⟩] })
      { start with cardB := { readyCard with
        state := .active, queue := [q], op := some ⟨.blockWrite, 0, 0, none, true⟩ } })
    let d : State := done (some .draining)
    (1 ≤ p.length.toNat ∧ p.length.toNat ≤ 8388608 ∧ 1 ≤ p.frames.toNat ∧ p.frames.toNat ≤ 600
      ∧ tight.recorder.state = .recording ∧ ∀ e ∈ tight.recorder.essences, e.slot ≠ 0)
    ∧ (tight.cardA.capacity - tight.cardA.committed - tight.cardA.reserved < (p.length.toNat + 65535) / 65536
        ∧ tight.cardA.state = .active ∧ tight.recorder.mirror = false ∧ tight.recorder.targetA = true
        ∧ tight.cardB.state = .ready ∧ (someClip .opened).spans.length < 8
        ∧ (p.length.toNat + 65535) / 65536 ≤ tight.cardB.capacity ∧ tight.cardB.queue.length < 512
        ∧ isStarted 0 (w [p]) tight = true ∧ openClip tight = some (someClip .opened)
        ∧ ({ tight with cardB := Card.powerOn } : State).cardB.state ≠ .ready
        ∧ tight.recorder.pendingStop = none)
    ∧ (isStarted 0 (w [p]) both = true ∧ both.recorder.mirror = true ∧ both.recorder.targetA = true
        ∧ both.recorder.targetB = true ∧ both.cardA.state = .active ∧ both.cardB.state = .active
        ∧ both.cardA.capacity - both.cardA.committed - both.cardA.reserved < (p.length.toNat + 65535) / 65536
        ∧ (p.length.toNat + 65535) / 65536 ≤ both.cardB.capacity - both.cardB.committed - both.cardB.reserved
        ∧ openClip both = some (someClip .opened))
    ∧ ((done none).recorder.phase = none ∧ d.recorder.phase = some .draining
        ∧ (card .b d).state = .active ∧ (card .b d).op = some ⟨.blockWrite, 0, 0, none, true⟩
        ∧ (card .b d).queue = [q] ∧ (card .b d).index = none ∧ q.extent.slot = 3 ∧ q.extent.place = 0
        ∧ d.recorder.essences = [⟨3, 1, [⟨none, 7, some 0, .none, .queued⟩]⟩]
        ∧ d.unit.slots[(3 : Fin 32)].state = .running ∧ openClip d = some clip
        ∧ clip.serial = 0 ∧ clip.spans = [⟨.b, some 9, 0⟩]) := by decide +kernel

theorem witness_MarksModeAndListing :
    let m (k : Byte) : State := asked (.mark 0 k 255) (recording start)
    let g (a b : Byte) : Instr := .setRecMode 0 a b 601 9
    let s (a b : Byte) (st : RecState) : State := asked (g a b) (rec (fun r => { r with state := st }) start)
    (isStarted 0 (.mark 0 1 255) (m 1) = true ∧ openClip (m 1) = some (someClip .opened)
      ∧ (someClip .opened).state = .opened ∧ (1 : Byte).toNat ≤ 1 ∧ (someClip .opened).marks.length < 16
      ∧ 16 ≤ (List.replicate 16 (⟨.good, 0, none⟩ : Mark)).length)
    ∧ (isStarted 0 (.mark 0 2 255) (m 2) = true ∧ 1 < (2 : Byte).toNat)
    ∧ (isStarted 0 (.mark 0 0 0) (asked (.mark 0 0 0) start) = true
        ∧ openClip (asked (.mark 0 0 0) start) = none)
    ∧ (isStarted 0 (g 2 0) (s 2 0 .standby) = true ∧ 1 < (2 : Byte).toNat)
    ∧ (isStarted 0 (g 1 1) (s 1 1 .arming) = true ∧ (s 1 1 .arming).recorder.state ≠ .standby
        ∧ (s 1 1 .arming).recorder.state ≠ .prerec)
    ∧ (isStarted 0 (g 1 1) (s 1 1 .prerec) = true ∧ (s 1 1 .prerec).recorder.state = .prerec
        ∧ (s 1 1 .prerec).recorder.held = [])
    ∧ (isStarted 0 (.listClips 0 31) (asked (.listClips 0 31) start) = true ∧ (31 : Byte).toNat ≤ 31)
    ∧ (isStarted 0 (.listClips 0 32) (asked (.listClips 0 32) start) = true ∧ 31 < (32 : Byte).toNat)
    ∧ (let c : State := rec (fun r => { r with clips := [someClip .closing] }) (m 1)
      isStarted 0 (.mark 0 1 255) c = true ∧ openClip c = some (someClip .closing)
        ∧ (someClip .closing).state = .closing) := by
  decide +kernel

/-- SET_REC_MODE from PREREC with a held list within the new limit, above it, and discarded; and a listed clip. -/
theorem witness_MarksModeAndListing_held :
    let g (limit : BitVec 16) : Instr := .setRecMode 0 0 1 limit 9
    let e (place frames : Nat) : Extent := ⟨3, place, 0, 1, frames⟩
    let s (limit : BitVec 16) : State := asked (g limit) (rec (fun r => { r with
      state := .prerec, limit := 20, held := [e 0 6, e 1 4]
      essences := [⟨3, 2, List.replicate 2 ⟨none, 0, none, .none, .none⟩⟩] }) start)
    let sum (l : List Extent) : Nat := (l.map Extent.frames).sum
    let c : State := asked (.listClips 0 0) (rec (fun r => { r with
      clips := [{ someClip .closed with endLabel := some ⟨1, 2, 7, 3⟩, reason := some .cue }] }) start)
    (isStarted 0 (g 10) (s 10) = true ∧ (s 10).recorder.state = .prerec ∧ start.clock.mode = .freeRun
        ∧ sum (s 10).recorder.held ≤ min (10 : BitVec 16).toNat 600 ∧ (0 : Byte).toNat ≤ 1 ∧ (1 : Byte).toNat ≤ 1)
    ∧ (isStarted 0 (g 5) (s 5) = true ∧ 5 < sum (s 5).recorder.held ∧ sum ((s 5).recorder.held.drop 1) ≤ 5)
    ∧ (isStarted 0 (g 0) (s 0) = true ∧ ¬0 < min (0 : BitVec 16).toNat 600)
    ∧ (∀ x ∈ (s 5).recorder.essences, x.slot ≠ 0)
    ∧ (isStarted 0 (.listClips 0 0) c = true ∧ 0 < ((c.recorder.clips.drop 0).take 8).length) := by decide +kernel

theorem witness_FrameStartServesRecordAndAudio :
    let a : State := rec (fun r => { r with state := .arming }) { start with cardA := readyCard }
    let k : Clip := { someClip .opened with frames := framesPerDay start.clock.rate start.clock.drop - 1 }
    let d : State := rec (fun r => { r with clips := [k] }) (recording start)
    let s : State := rec (fun r => { r with pendingStop := some .operator
                                            essences := [⟨3, 1, [⟨none, 7, some 0, .queued, .none⟩]⟩] }) (recording start)
    let c : AudioChannel := start.audio.channels[(3 : Fin 4)]
    (start.clock.preset = none ∧ (∀ i : Fin 4, start.cues[i].enable = false) ∧ start.iris.holder = .none)
    ∧ (a.recorder.state = .arming ∧ a.recorder.mirror = false ∧ chosenCards a = [.a] ∧ a.recorder.held = [])
    ∧ (s.recorder.state = .recording ∧ s.recorder.pendingStop = some .operator
        ∧ openClip s = some (someClip .opened) ∧ clipQueued 0 s = true)
    ∧ (d.recorder.state = .recording ∧ d.recorder.pendingStop = none ∧ openClip d = some k
        ∧ k.frames + 1 = framesPerDay d.clock.rate d.clock.drop)
    ∧ ({ c with mute := 1 } : AudioChannel).mute = 1
    ∧ (start.audio.lost = false ∧ c.mode ≠ .auto ∧ c.mute = 0 ∧ ({ c with release := 3 } : AudioChannel).release = 3
        ∧ meterLevel (c.peak.getD 0) < start.audio.limitThreshold - 6)
    ∧ (({ c with mode := .auto, quiet := 30 } : AudioChannel).mode = .auto ∧ 30 ≤ 30 ∧ c.source ≠ .intMic
        ∧ meterLevel (c.peak.getD 0) < start.audio.target - 12) := by decide +kernel

/-- Openings in ARMING with a held extent that just fits: on one card in RELAY, on both and on one in MIRROR; with no
card READY; and with one block too few. -/
theorem witness_FrameStartServesRecordAndAudio_open :
    let e : Extent := ⟨5, 0, 0, 65536 * 3, 2⟩
    let cell (free : Nat) : Card := { Card.powerOn with state := .ready, capacity := 70, committed := 70 - free }
    let s (mirror : Bool) (a b : Card) : State := slotIn 6 ⟨.running, some (.recStart 6)⟩ (taken (.writeEssence 5 [])
      (rec (fun r => { r with
        state := .arming, mirror := mirror, held := [e], pendingStart := some (.request 6)
        essences := [⟨5, 1, [⟨none, 0, none, .none, .none⟩]⟩] }) { start with cardA := a, cardB := b }))
    let cards (x : State) : List CardSlot := [CardSlot.a, .b].filter fun c => (card c x).state == .ready
      && (x.recorder.mirror || c == x.recorder.preferred || !(card x.recorder.preferred x).state == .ready)
    let relay := s false (cell 3) (cell 3)
    let unfit := s false (cell 2) Card.powerOn
    (relay.recorder.state = .arming ∧ relay.recorder.OneOpenClip ∧ cards relay = [.a]
        ∧ ([e].map fun e => (e.length + 65535) / 65536).sum ≤ 70 - (70 - 3) - 0
        ∧ (card .a relay).queue.length + [e].length ≤ 512
        ∧ essenceExtent e.slot e.place relay = some ⟨none, 0, none, .none, .none⟩
        ∧ relay.recorder.pendingStart = some (.request 6) ∧ relay.unit.slots[(6 : Fin 32)].state = .running)
    ∧ (cards (s true (cell 3) (cell 3)) = [.a, .b] ∧ cards (s true Card.powerOn (cell 3)) = [.b]
        ∧ cards (s false Card.powerOn (cell 3)) = [.b] ∧ cards (s true Card.powerOn Card.powerOn) = [])
    ∧ (unfit.recorder.state = .arming ∧ unfit.recorder.OneOpenClip ∧ unfit.recorder.mirror = false
        ∧ cards unfit = [.a] ∧ (card (otherCard .a) unfit).state ≠ .ready ∧ unfit.recorder.held = [e]
        ∧ 70 - (70 - 2) - 0 < (e.length + 65535) / 65536 ∧ unfit.recorder.pendingStop = none
        ∧ unfit.recorder.essences = [⟨5, 1, [⟨none, 0, none, .none, .none⟩]⟩]
        ∧ unfit.recorder.pendingStart = some (.request 6) ∧ unfit.unit.slots[(5 : Fin 32)].state = .running) := by
  unfold Recorder.OneOpenClip
  decide +kernel

/-- The meter at its held level, above it and below it, and an over in REC. -/
theorem witness_FrameStartServesRecordAndAudio_meter :
    let c (peak : Nat) (held : Int) (count : Nat) : AudioChannel := { start.audio.channels[(0 : Fin 4)] with
      peak := some peak, held := held, holdCount := count, overFlag := true }
    let loud : State := { recording start with
      audio := { start.audio with channels := put start.audio.channels 0 (c 8388607 (-1) 0) } }
    ((c 8388607 (-1) 0).held ≤ meterLevel 8388607 ∧ (c 8388607 (-300) 0).held ≤ meterLevel 8388607
        ∧ ¬(c 1 (-1) 0).held ≤ meterLevel 1 ∧ 0 < (c 1 (-1) 1).holdCount ∧ ¬0 < (c 1 (-1) 0).holdCount)
    ∧ (loud.audio.lost = false ∧ loud.audio.overThreshold ≤ meterLevel 8388607
        ∧ loud.audio.channels[(0 : Fin 4)].spacing ≤ 1 ∧ (∀ n : Fin 4, loud.cues[n].enable = false)
        ∧ loud.recorder.state = .recording ∧ loud.recorder.pendingStop = none
        ∧ openClip loud = some (someClip .opened) ∧ (someClip .opened).state = .opened
        ∧ (someClip .opened).marks.length ≤ 12) := by decide +kernel

/-! ### Witnesses: audio -/

/-- The levels and counts that the limiter and the AGC tell apart, a gain that differs from the last one pending, and the
codec link busy and free. -/
theorem witness_FrameStartServesRecordAndAudio_gain :
    let level (peak : Nat) : Int := meterLevel peak
    let c (m : GainMode) (release quiet : Nat) : AudioChannel := { start.audio.channels[(0 : Fin 4)] with
      mode := m, release := release, quiet := quiet }
    let s (x : Option CodecItem) (q : List CodecItem) (lost : Bool) : State :=
      { start with audio := { start.audio with inFlight := x, queue := q, lost := lost } }
    (start.audio.limitThreshold ≤ level 8388607 ∧ start.audio.limitThreshold - 6 ≤ level 6000000
        ∧ level 6000000 < start.audio.limitThreshold ∧ level 1 < start.audio.limitThreshold - 6)
    ∧ ((c .pot 2 0).release < 3 ∧ 3 ≤ (c .host 3 0).release ∧ (c .pot 0 0).mode ≠ .auto ∧ (c .pot 0 0).mute = 0)
    ∧ (start.audio.target + 6 < level 8388607 ∧ start.audio.target - 12 ≤ start.audio.target
        ∧ level 1 < start.audio.target - 12 ∧ (c .auto 0 29).quiet < 30 ∧ 30 ≤ (c .auto 0 30).quiet)
    ∧ ((c .auto 0 0).source = .intMic ∧ start.iris.holder ≠ .recall ∧ (∀ i : Fin 4, start.cues[i].enable = false)
        ∧ 64 < (65 : Int).natAbs ∧ ¬64 < start.zoom.applied.natAbs)
    ∧ (0 < ({ c .auto 0 0 with mute := 1 } : AudioChannel).mute ∧ (s none [] true).audio.lost = true)
    ∧ ((s (some ⟨0, .gain 3⟩) [⟨0, .gain 5⟩] false).audio.inFlight ≠ none ∧ (s none [] false).audio.inFlight = none
        ∧ (s none [] false).audio.queue = []) := by decide +kernel

theorem witness_MeterLevelByTheRule : (2 ^ 22 ≤ 8388607 ∧ 8388607 < 2 ^ (22 + 1) ∧ 22 ≤ 22)
    ∧ (2 ^ 0 ≤ 1 ∧ 1 < 2 ^ (0 + 1)) ∧ 1 ≤ 8388607 ∧ 8388607 ≤ 8388607 := by decide

theorem witness_AudioInputAndCodecLink :
    let s (lost : Bool) (r : Option Nat) : State := { start with audio := { start.audio with lost := lost, recovery := r } }
    (s false none).audio.lost = false
    ∧ ((s true (some 3)).audio.lost = true ∧ (s true (some 3)).audio.recovery ≠ none)
    ∧ start.audio.queue.length = 11 ∧ ({ start.audio with queue := [] } : Audio).queue = [] := by decide +kernel

theorem witness_AudioRequestsConfigure :
    let good : List AudioParam := [⟨0, 0, 0, 128⟩, ⟨1, 1, 2, 127⟩, ⟨2, 0, 1, 0⟩, ⟨1, 0, 2, 5⟩]
    let bad : List AudioParam := [⟨0, 0, 0, 0⟩, ⟨0, 0, 0, 0⟩, ⟨0, 0, 0, 0⟩, ⟨3, 0, 0, 0⟩]
    let l : Instr := .audioLevels 0 0 0 (-277) (-19) 128
    (isStarted 0 (.audioConfig 0 good) (asked (.audioConfig 0 good) start) = true ∧ good.length = 4
      ∧ (∀ x ∈ good, x.source.toNat ≤ 2 ∧ x.phantom.toNat ≤ 1 ∧ x.gainMode.toNat ≤ 2
          ∧ (x.phantom = 1 → x.source = 1))
      ∧ (∀ x ∈ good.drop 2, x.gainMode ≠ 0))
    ∧ (isStarted 0 (.audioConfig 0 bad) (asked (.audioConfig 0 bad) start) = true ∧ bad.length = 4
        ∧ bad[3]? = some ⟨3, 0, 0, 0⟩ ∧ ¬((3 : Byte).toNat ≤ 2))
    ∧ isStarted 0 l (asked l start) = true := by decide +kernel

/-- A switch of the first channel alone, with the codec link free, busy, and writing that channel's MUTE ON. -/
theorem witness_AudioRequestsConfigure_switch :
    let good : List AudioParam := [⟨2, 0, 0, 0⟩, ⟨0, 0, 0, 0⟩, ⟨1, 0, 1, 0⟩, ⟨1, 0, 1, 0⟩]
    let s (x : Option CodecItem) (mute : Nat) : State := asked (.audioConfig 0 good) { recording start with
      audio := { start.audio with
        queue := [], inFlight := x
        channels := put start.audio.channels 0 { start.audio.channels[(0 : Fin 4)] with mute := mute } } }
    (isStarted 0 (.audioConfig 0 good) (s none 0) = true ∧ good.length = 4
        ∧ ((s none 0).audio.channels.toList.map fun c => c.source.code) = [0, 0, 1, 1]
        ∧ ∀ i : Fin 4, (s none 0).audio.channels[i].phantom = false)
    ∧ ((s none 0).audio.inFlight = none ∧ (s none 0).audio.queue = [])
    ∧ ((s (some ⟨0, .mute true⟩) 25).audio.inFlight = some ⟨0, .mute true⟩
        ∧ 0 < (s (some ⟨0, .mute true⟩) 25).audio.channels[(0 : Fin 4)].mute
        ∧ (s (some ⟨0, .gain 0⟩) 0).audio.inFlight = some ⟨0, .gain 0⟩)
    ∧ openClip (s none 0) = some (someClip .opened) := by decide +kernel

/-- A channel that enters AUTO, one that leaves it, one that changes between manual modes and one that stays. -/
theorem witness_AudioRequestsConfigure_mode :
    let good : List AudioParam := [⟨0, 0, 2, 0⟩, ⟨0, 0, 0, 0⟩, ⟨1, 0, 1, 0⟩, ⟨1, 0, 2, 0⟩]
    let s : State := asked (.audioConfig 0 good) { start with audio := { start.audio with
      channels := put (put start.audio.channels 1 { start.audio.channels[(1 : Fin 4)] with mode := .auto }) 3
        { start.audio.channels[(3 : Fin 4)] with mode := .auto, reduction := 4, release := 3, quiet := 9 } } }
    isStarted 0 (.audioConfig 0 good) s = true ∧ good.length = 4
    ∧ (s.audio.channels.toList.map AudioChannel.mode) = [.pot, .auto, .host, .auto]
    ∧ (good.map fun x => x.gainMode.toNat) = [2, 0, 1, 2] := by decide +kernel

/-! ### Witnesses: viewfinder link and operator controls -/

theorem witness_LinkTransactions :
    let v (t : TargetState) (w r : Bool) (n : Nat) : Viewfinder := { start.vf with
      target := t, writing := w, reading := r, fifo := List.replicate n (5, none) }
    ((v (.holdWrite 7) true false 16).target.holds = true)
    ∧ ((v .ignore false false 0).target.holds = false ∧ (v .ignore false false 0).writing = false
        ∧ (v .ignore false false 0).reading = false)
    ∧ ((v .addressedWrite true false 1).target.holds = false ∧ (v .addressedWrite true false 1).writing = true
        ∧ (v .addressedWrite true false 1).fifo = [] ++ [(5, none)])
    ∧ (start.vf.target = .idle ∧ (0x3A : BitVec 7).toNat = start.vf.address
        ∧ (0x3B : BitVec 7).toNat ≠ start.vf.address ∧ start.vf.present = false ∧ start.vf.shown = none)
    ∧ (v .addressedWrite true false 15).fifo.length < 16 ∧ 16 ≤ (v .addressedWrite true false 16).fifo.length
    ∧ ((v (.holdWrite 7) true false 16).target = .holdWrite 7
        ∧ (v (.holdWrite 7) true false 16).fifo = List.replicate 15 (5, none) ++ [(5, none)])
    ∧ ((v .addressedRead false true 0).target = .addressedRead
        ∧ ({ v .addressedRead false true 0 with shown := some .y } : Viewfinder).shown = some .y)
    ∧ (({ start.vf with build := .building 0 } : Viewfinder).build = .building 0 ∧ start.vf.heldMarks = []
        ∧ start.vf.reading = false ∧ start.vf.target ≠ .holdRead
        ∧ (v .addressedRead false true 0).reading = true) := by decide +kernel

/-- The end of a write whose bytes are all taken, with and without a rebuild, and a rebuild that ends with boundaries
held. -/
theorem witness_LinkTransactions_ends :
    let v (b : BuildState) (marks : List Boundary) : Viewfinder := { start.vf with
      target := .addressedWrite, writing := true, build := b, heldMarks := marks, decoder := .inRecord [1] }
    ((v .idle []).target.holds = false ∧ (v .idle []).writing = true ∧ (v .idle []).reading = false
        ∧ (v .idle []).fifo = [] ∧ (v .idle []).rebuilding = false)
    ∧ (v (.building 4) []).rebuilding = true
    ∧ ((v (.building 4) [.finish]).build = .building 4 ∧ (v (.building 4) [.finish]).heldMarks ≠ []
        ∧ (v (.building 4) [.finish]).reading = false
        ∧ (v (.building 4) [.finish]).target ≠ .holdRead) := by decide +kernel

/-- The end of a read with and without a page waiting, a held byte with the FIFO full, and a held read. -/
theorem witness_LinkTransactions_holds :
    let v (t : TargetState) (b : BuildState) : Viewfinder := { start.vf with
      target := t, reading := true, build := b, fifo := List.replicate 16 (5, none) }
    ((v .addressedRead .idle).target.holds = false ∧ (v .addressedRead .idle).writing = false
        ∧ (v .addressedRead .idle).reading = true ∧ (v .addressedRead .idle).build ≠ .waiting)
    ∧ (v .addressedRead .waiting).build = .waiting
    ∧ ((v (.holdWrite 7) .idle).target = .holdWrite 7 ∧ (v (.holdWrite 7) .idle).rebuilding = false
        ∧ (v (.holdWrite 7) .idle).fifo = (5, none) :: List.replicate 15 (5, none))
    ∧ ((v .holdRead (.building 0)).shown = none ∧ (v .holdRead (.building 0)).target = .holdRead
        ∧ (v .holdRead (.building 0)).heldMarks = []) := by decide +kernel

theorem witness_DecoderTakesRecords :
    let s (d : DecoderState) (b : Byte) : State := vf (fun v => { v with decoder := d, fifo := [(b, none)] }) start
    ((s .atType 6).vf.rebuilding = false ∧ (s .atType 6).vf.target = .idle ∧ (s .atType 6).vf.fifo = [(6, none)]
      ∧ (s .atType 6).vf.decoder = .atType ∧ 1 ≤ (6 : Byte).toNat ∧ (6 : Byte).toNat ≤ 6)
    ∧ 6 < (7 : Byte).toNat ∧ (s .discarding 1).vf.decoder = .discarding
    ∧ ((s (.inRecord [1]) 64).vf.decoder = .inRecord [1] ∧ (s (.inRecord [2]) 0x80).vf.decoder = .inRecord [2])
    ∧ (¬((0x80 : Byte).toInt ≥ -127) ∧ start.zoom.holder ≠ .recall ∧ start.zoom.host = none)
    ∧ ({ start.zoom with holder := .operator } : Zoom).holder = .operator
    ∧ ((s (.inRecord [3, 0xFF]) 0xFF).vf.decoder = .inRecord [3, 0xFF]
        ∧ clampInt (-8191) 8191 ((0xFF : Byte) ++ (0xFF : Byte)).toInt = -1
        ∧ (lensReady start).focus.state = .idle ∧ (lensReady start).focus.holder ≠ .recall
        ∧ (lensReady start).focus.host = none)
    ∧ ((s (.inRecord [4]) 0x80).vf.decoder = .inRecord [4] ∧ (lensReady start).iris.holder ≠ .recall
        ∧ (lensReady start).iris.host = none ∧ (lensReady start).iris.target = some 100)
    ∧ ((s (.inRecord [5, 4]) 1).vf.decoder = .inRecord [5, 4] ∧ 3 < (4 : Byte).toNat)
    ∧ (start.vf.buttons.record = false ∧ (rec (fun r => { r with guardTimer := some 1 }) start).recorder.guardTimer ≠ none)
    ∧ (start.vf.buttons.shot = false ∧ start.shots.press = none)
    ∧ (start.recorder.guardTimer = none ∧ start.vf.buttons.goodShot = false ∧ openClip start = none
      ∧ start.vf.buttons.stabToggle = false ∧ start.stab.state ≠ .calibrating)
    ∧ ((openClip (recording start)).map Clip.state = some .opened)
    ∧ (let held : State := vf (fun v => { v with buttons := ⟨true, true, true, true⟩ }) start
      held.vf.buttons.record = true ∧ held.shots.press = none ∧ (0 : Byte).toNat ≤ 1
      ∧ ({ held with shots := { held.shots with press := some ⟨.viewfinder, none, true⟩ } } : State).shots.press
        = some ⟨.viewfinder, none, true⟩)
    ∧ (let m (d : DecoderState) : State := vf (fun v => { v with decoder := d, fifo := [(9, some .finish)] }) start
      (m (.inRecord [5])).vf.fifo = [(9, some .finish)] ∧ (m (.inRecord [5])).vf.decoder = .inRecord (5 :: [])
      ∧ (5 : Byte).toNat = 5 ∧ ([] : List Byte).length + 2 < 3 ∧ (m (.inRecord [2])).vf.decoder = .inRecord (2 :: [])
      ∧ (m .discarding).vf.errors ≤ 65535)
    ∧ ((s (.inRecord [6, 9]) 2).vf.decoder = .inRecord [6, 9] ∧ 1 < (2 : Byte).toNat ∧ (1 : Byte).toNat ≤ 1) := by
  decide +kernel

/-- Host requests and a recall that the operator's records preempt. -/
theorem witness_DecoderTakesRecords_preempt :
    let s (d : DecoderState) (b : Byte) (x : State) : State :=
      vf (fun v => { v with decoder := d, fifo := [(b, none)] }) x
    let hosts : State := taken (.zoomMove 5 9 9) { lensReady start with
      zoom := { (lensReady start).zoom with holder := .host, host := some ⟨5, .move 9 9, false⟩ }
      focus := { (lensReady start).focus with holder := .host, host := some ⟨5, 9, 4, false⟩ }
      iris := { (lensReady start).iris with holder := .host, host := some ⟨5, 9, false⟩ } }
    let r : Recall := ⟨.request 5, someShot, false, false, false, false⟩
    let moves : State := taken (.shotRecall 5) { lensReady start with
      zoom := { (lensReady start).zoom with holder := .recall, recallClaim := some ⟨2000, 64⟩ }
      focus := { (lensReady start).focus with state := .moving, holder := .recall, target := 900 }
      iris := { (lensReady start).iris with holder := .recall, target := some 30 }
      shots := { start.shots with op := some (.moving r), banks := [someShot] } }
    ((s (.inRecord [2]) 1 hosts).vf.decoder = .inRecord [2] ∧ (s (.inRecord [2]) 1 hosts).vf.fifo = [(1, none)]
        ∧ hosts.zoom.holder ≠ .recall ∧ hosts.zoom.host = some ⟨5, .move 9 9, false⟩
        ∧ hosts.unit.slots[(5 : Fin 32)].state = .running)
    ∧ (hosts.focus.state = .idle ∧ hosts.focus.host = some ⟨5, 9, 4, false⟩ ∧ hosts.focus.holder ≠ .recall)
    ∧ (hosts.iris.host = some ⟨5, 9, false⟩ ∧ hosts.iris.target = some 100 ∧ hosts.iris.holder ≠ .recall)
    ∧ (moves.shots.op = some (.moving r) ∧ r.source = .request 5 ∧ moves.unit.slots[(5 : Fin 32)].state = .running)
    ∧ (moves.zoom.holder = .recall ∧ moves.zoom.host = none)
    ∧ (moves.focus.holder = .recall ∧ moves.focus.host = none ∧ moves.focus.state = .moving)
    ∧ (moves.iris.holder = .recall ∧ moves.iris.host = none ∧ moves.iris.target = some 30) := by decide +kernel

theorem witness_HoldsAndPresenceExpire :
    let s : State := { start with
      vf := { start.vf with present := true, zoomHold := .timing 0, focusHold := some 0, irisHold := some 0 }
      zoom := { start.zoom with holder := .operator } }
    s.vf.zoomHold = .timing 0 ∧ s.zoom.holder = .operator ∧ s.vf.focusHold = some 0 ∧ s.vf.irisHold = some 0
    ∧ s.vf.present = true := by decide +kernel

/-- The loss of a viewfinder that holds the clock on a written byte, the zoom and the SHOT button. -/
theorem witness_HoldsAndPresenceExpire_withdraw :
    let s : State := { start with
      vf := { start.vf with
        present := true, target := .holdWrite 9, writing := true, holdTimer := some 5, rocker := 7
        heldMarks := [.finish], zoomHold := .held, focusHold := some 1, irisHold := some 1
        buttons := ⟨false, false, true, false⟩ }
      zoom := { start.zoom with holder := .operator, rocker := 7, demand := 7 }
      focus := { start.focus with holder := .operator }
      iris := { start.iris with holder := .operator }
      shots := { start.shots with press := some ⟨.viewfinder, some 5, false⟩ } }
    let other : State := vf (fun v => { v with writing := false, target := .holdRead })
      { s with zoom := { s.zoom with holder := .host }
               shots := { s.shots with press := some ⟨.line, some 5, false⟩ } }
    (s.vf.present = true ∧ s.vf.writing = true ∧ s.vf.target = .holdWrite 9 ∧ s.zoom.holder = .operator
        ∧ s.shots.press = some ⟨.viewfinder, some 5, false⟩ ∧ s.vf.buttons.shot = true)
    ∧ (other.vf.present = true ∧ other.vf.writing = false ∧ other.zoom.holder ≠ .operator
        ∧ other.shots.press = some ⟨.line, some 5, false⟩) := by decide +kernel

end Sys2Proof.Tests
end

section
/-! PROOFS. The frame clock: label arithmetic. -/
namespace Sys2Proof.Machine

/-! ### Valid labels (R11, R14) -/

theorem FrameRate.labelRate_pos (r : FrameRate) : 0 < r.labelRate := by cases r <;> decide

theorem dropsInForce_lt_labelRate (r : FrameRate) (d : Bool) : dropsInForce r d < r.labelRate := by
  cases r <;> cases d <;> decide

theorem Label.valid_iff (r : FrameRate) (d : Bool) (l : Label) :
    l.valid r d = true ↔ presetInRange r l = true ∧ l.isDropped r d = false := by
  simp [Label.valid, presetInRange, and_assoc]

theorem presetInRange_iff (r : FrameRate) (l : Label) : presetInRange r l = true
    ↔ l.hours ≤ 23 ∧ l.minutes ≤ 59 ∧ l.seconds ≤ 59 ∧ l.frames < r.labelRate := by
  simp [presetInRange, and_assoc]

theorem Label.isDropped_iff (r : FrameRate) (d : Bool) (l : Label) : l.isDropped r d = true
    ↔ l.seconds = 0 ∧ l.frames < dropsInForce r d ∧ l.minutes % 10 ≠ 0 := by
  simp [Label.isDropped, and_assoc]

/-- A label in range, moved past a dropped one, is valid (R11, R16). -/
theorem Label.nextValid_valid {r : FrameRate} {d : Bool} {l : Label} (h : presetInRange r l = true) :
    (l.nextValid r d).valid r d = true := by
  unfold Label.nextValid
  split
  next hd =>
    rw [Label.valid_iff, presetInRange_iff, ← Bool.not_eq_true, Label.isDropped_iff]
    rw [presetInRange_iff] at h
    have := dropsInForce_lt_labelRate r d
    simp [h, this]
  next hd => exact (Label.valid_iff r d l).2 ⟨h, by simpa using hd⟩

/-- A label brought into a format is valid there when its hours, minutes and seconds are in range (R15, step 3). -/
theorem reformatLabel_valid {r r' : FrameRate} {d d' : Bool} {l : Label} (h : l.valid r d = true) :
    (reformatLabel r' d' l).valid r' d' = true := by
  obtain ⟨hr, -⟩ := (Label.valid_iff r d l).1 h
  obtain ⟨hh, hm, hs, -⟩ := (presetInRange_iff r l).1 hr
  have := r'.labelRate_pos
  exact Label.nextValid_valid ((presetInRange_iff _ _).2 ⟨hh, hm, hs, by dsimp only; omega⟩)

/-- The non-drop label of a number is in range within a day of `n` labels a second (R14). -/
theorem plainLabel_inRange {r : FrameRate} {n : Nat} (h : n < 86400 * r.labelRate) :
    presetInRange r (plainLabel r.labelRate n) = true := by
  have hs : n / r.labelRate < 86400 := Nat.div_lt_of_lt_mul (by rwa [Nat.mul_comm])
  rw [presetInRange_iff]
  refine ⟨?_, ?_, ?_, Nat.mod_lt _ r.labelRate_pos⟩ <;> dsimp only [plainLabel] <;> omega

/-- The non-drop label of a number is a dropped one where the number falls on the first `d` of a minute that is
not a tenth one (R11, R14). -/
theorem plainLabel_isDropped_iff (r : FrameRate) (d : Bool) (n : Nat) :
    (plainLabel r.labelRate n).isDropped r d = true
      ↔ n % (60 * r.labelRate) < dropsInForce r d ∧ n / (60 * r.labelRate) % 10 ≠ 0 := by
  have hd := dropsInForce_lt_labelRate r d
  have hsplit : n % (60 * r.labelRate) = n % r.labelRate + r.labelRate * (n / r.labelRate % 60) := by
    rw [Nat.mul_comm 60, Nat.mod_mul]
  have hdiv : n / (60 * r.labelRate) = n / r.labelRate / 60 := by rw [Nat.mul_comm 60, Nat.div_div_eq_div_mul]
  rw [Label.isDropped_iff, hsplit, hdiv]
  dsimp only [plainLabel]
  rw [Nat.mod_mod_of_dvd _ (by decide : 10 ∣ 60), ← and_assoc]
  refine and_congr_left fun _ => ⟨fun ⟨h0, hf⟩ => by simpa [h0] using hf, fun h => ?_⟩
  have h0 : n / r.labelRate % 60 = 0 := by
    refine Decidable.byContradiction fun hne => ?_
    have := Nat.le_mul_of_pos_right r.labelRate (Nat.pos_of_ne_zero hne)
    omega
  exact ⟨h0, by simpa [h0] using h⟩

/-- The number whose non-drop label is the label of frame number `n` (R14). -/
def droppedCount (r : FrameRate) (d : Bool) (n : Nat) : Nat :=
  let k := dropsInForce r d
  let m := n % (600 * r.labelRate - 9 * k)
  n + 9 * k * (n / (600 * r.labelRate - 9 * k))
    + if m ≥ k then k * ((m - k) / (60 * r.labelRate - k)) else 0

theorem labelOf_eq_plainLabel (r : FrameRate) (d : Bool) (n : Nat) :
    labelOf r d n = plainLabel r.labelRate (droppedCount r d n) := by
  unfold labelOf droppedCount
  by_cases h : dropsInForce r d = 0
  · simp [h]
  · dsimp only
    rw [if_neg h]
    split <;> rfl

/-- Drop mode drops two labels a minute at 30 labels a second and four at 60, and none otherwise (section 1.1). -/
theorem dropsInForce_cases (r : FrameRate) (d : Bool) : dropsInForce r d = 0
    ∨ (r.labelRate = 30 ∧ dropsInForce r d = 2) ∨ (r.labelRate = 60 ∧ dropsInForce r d = 4) := by
  cases r <;> cases d <;> decide

/-- Within a day the count stays within the day's non-drop labels, and it misses the dropped labels (R11, R13). -/
theorem droppedCount_spec {r : FrameRate} {d : Bool} {n : Nat} (h : n < framesPerDay r d) :
    droppedCount r d n < 86400 * r.labelRate
      ∧ ¬ (droppedCount r d n % (60 * r.labelRate) < dropsInForce r d
          ∧ droppedCount r d n / (60 * r.labelRate) % 10 ≠ 0) := by
  unfold framesPerDay at h
  unfold droppedCount
  rcases dropsInForce_cases r d with h0 | ⟨hr, hd⟩ | ⟨hr, hd⟩
  · simp only [h0] at h ⊢
    simpa using h
  · simp only [hr, hd] at h ⊢
    split <;> omega
  · simp only [hr, hd] at h ⊢
    split <;> omega

/-- The label of a frame number within a day is valid (R14). -/
theorem labelOf_valid {r : FrameRate} {d : Bool} {n : Nat} (h : n < framesPerDay r d) :
    (labelOf r d n).valid r d = true := by
  obtain ⟨hday, hkept⟩ := droppedCount_spec h
  rw [labelOf_eq_plainLabel, Label.valid_iff, ← Bool.not_eq_true, plainLabel_isDropped_iff]
  exact ⟨plainLabel_inRange hday, hkept⟩

theorem framesPerDay_pos (r : FrameRate) (d : Bool) : 0 < framesPerDay r d := by
  cases r <;> cases d <;> decide

/-- A label moved by any number of frames is valid: the sum wraps within the day (R14). -/
theorem addFrames_valid (r : FrameRate) (d : Bool) (l : Label) (k : Int) : (addFrames r d l k).valid r d = true := by
  have hpos := framesPerDay_pos r d
  have hwrap := Int.emod_lt_of_pos ((frameNumber r d l : Int) + k) (Int.natCast_pos.2 hpos)
  have hnonneg := Int.emod_nonneg ((frameNumber r d l : Int) + k) (Int.natCast_ne_zero.2 (Nat.ne_of_gt hpos))
  exact labelOf_valid (by omega)

end Sys2Proof.Machine
end

section
/-! PROOFS. The frame clock under the commands that do not concern it. -/
namespace Sys2Proof.Machine
/-! ### The commands that leave the frame clock alone -/

/-- An operation that leaves the outside of its block alone leaves the clock alone. -/
theorem clock_of_outside {s t : State} (h : outside t = outside s) : t.clock = s.clock := congrArg Outside.clock h

section
variable (s : State)

@[simp] theorem complete_clock (n : Fin 32) (st : Status) (r : List Byte) : (complete n st r s).clock = s.clock :=
    clock_of_outside (by simp)
@[simp] theorem completeWith_clock (l : Option Label) (n : Fin 32) (st : Status) (r : List Byte) :
    (completeWith l n st r s).clock = s.clock :=
    clock_of_outside (by simp)
@[simp] theorem completeFree_clock (n : Fin 32) (st : Status) : (completeFree n st s).clock = s.clock :=
    clock_of_outside (by simp)
@[simp] theorem keepRunning_clock (n : Fin 32) : (keepRunning n s).clock = s.clock := clock_of_outside (by simp)
@[simp] theorem latchIf_clock (b : Bool) (c : EventClass) : (latchIf b c s).clock = s.clock :=
    clock_of_outside (by simp)
@[simp] theorem deriveApplied_clock : (deriveApplied s).clock = s.clock := clock_of_outside (by simp)
@[simp] theorem evalZoom_clock : (evalZoom s).clock = s.clock := clock_of_outside (by simp)
@[simp] theorem reclampZoom_clock : (reclampZoom s).clock = s.clock := clock_of_outside (by simp)
@[simp] theorem rockerTaken_clock (v : Int) : (rockerTaken v s).clock = s.clock := clock_of_outside (by simp)
@[simp] theorem zoomHoldEnded_clock : (zoomHoldEnded s).clock = s.clock := clock_of_outside (by simp)
@[simp] theorem focusDeltaTaken_clock (d : Int) : (focusDeltaTaken d s).clock = s.clock := clock_of_outside (by simp)
@[simp] theorem focusHoldEnded_clock : (focusHoldEnded s).clock = s.clock := clock_of_outside (by simp)
@[simp] theorem focusHomeReport_clock (b : Bool) : (focusHomeReport b s).clock = s.clock := clock_of_outside (by simp)
@[simp] theorem focusHomeRise_clock : (focusHomeRise s).clock = s.clock := clock_of_outside (by simp)
@[simp] theorem irisDeltaTaken_clock (d : Int) : (irisDeltaTaken d s).clock = s.clock := clock_of_outside (by simp)
@[simp] theorem irisHoldEnded_clock : (irisHoldEnded s).clock = s.clock := clock_of_outside (by simp)
@[simp] theorem irisSample_clock (code : Nat) : (irisSample code s).clock = s.clock := clock_of_outside (by simp)
@[simp] theorem stallScan_clock : (stallScan s).clock = s.clock := clock_of_outside (by simp)
@[simp] theorem offerTracking_clock (target : Nat) : (offerTracking target s).clock = s.clock :=
    clock_of_outside (by simp)
@[simp] theorem stopHostZoom_clock (st : Status) : (stopHostZoom st s).clock = s.clock := clock_of_outside (by simp)
@[simp] theorem stopHostFocus_clock (st : Status) : (stopHostFocus st s).clock = s.clock := clock_of_outside (by simp)
@[simp] theorem stopHostIris_clock (st : Status) : (stopHostIris st s).clock = s.clock := clock_of_outside (by simp)
@[simp] theorem zoomCues_clock (z : Nat) : (zoomCues z s).clock = s.clock := clock_of_outside (by simp)
@[simp] theorem pushWritten_clock (ok : Bool) : (pushWritten ok s).clock = s.clock := clock_of_outside (by simp)
@[simp] theorem cancelRecall_clock : (cancelRecall s).clock = s.clock := clock_of_outside (by simp)
@[simp] theorem shotPressed_clock (p : PressSource) : (shotPressed p s).clock = s.clock := clock_of_outside (by simp)
@[simp] theorem shotReleased_clock (p : PressSource) : (shotReleased p s).clock = s.clock :=
    clock_of_outside (by simp)
@[simp] theorem shotPressLost_clock : (shotPressLost s).clock = s.clock := clock_of_outside (by simp)
@[simp] theorem checkPoint_clock (c : CardSlot) : (checkPoint c s).clock = s.clock := clock_of_outside (by simp)
@[simp] theorem insertCard_clock (c : CardSlot) : (insertCard c s).clock = s.clock := clock_of_outside (by simp)
@[simp] theorem removeCard_clock (c : CardSlot) : (removeCard c s).clock = s.clock := clock_of_outside (by simp)
@[simp] theorem beginMount_clock (c : CardSlot) : (beginMount c s).clock = s.clock := clock_of_outside (by simp)
@[simp] theorem addMark_clock (k : MarkKind) (d : Option Nat) : (addMark k d s).clock = s.clock :=
    clock_of_outside (by simp)
@[simp] theorem recPressed_clock : (recPressed s).clock = s.clock := clock_of_outside (by simp)
@[simp] theorem recPowerNotice_clock (old new : PowerState) : (recPowerNotice old new s).clock = s.clock :=
    clock_of_outside (by simp)
@[simp] theorem recFormatNotice_clock : (recFormatNotice s).clock = s.clock := clock_of_outside (by simp)
@[simp] theorem recTcModeNotice_clock : (recTcModeNotice s).clock = s.clock := clock_of_outside (by simp)

theorem foldl_clock {α : Type} (f : State → α → State) (h : ∀ s x, (f s x).clock = s.clock) (l : List α) :
    (l.foldl f s).clock = s.clock := by
  induction l generalizing s with
  | nil => rfl
  | cons x rest ih => rw [List.foldl_cons, ih, h]

theorem serve_clock (n : Fin 32) (i : Instr) {run : State → State} (h : (run s).clock = s.clock) :
    (serve n i run s).clock = s.clock := by
  unfold serve; split <;> simp [h]

/-! #### Lines and power -/

@[simp] theorem deliverEdge_clock (i : Fin 7) (rising : Bool) : (deliverEdge i rising s).clock = s.clock := by
  unfold deliverEdge; split <;> (try split) <;> simp

@[simp] theorem recordEdge_clock (i : Fin 7) (rising : Bool) : (recordEdge i rising s).clock = s.clock := by
  unfold recordEdge; split <;> simp

@[simp] theorem takeEdge_clock (i : Fin 7) : (takeEdge i s).clock = s.clock := by simp [takeEdge]

@[simp] theorem rawChange_clock (i : Fin 7) (level : Bool) : (rawChange i level s).clock = s.clock := by
  unfold rawChange; dsimp only; (repeat' split) <;> simp

@[simp] theorem setLinesTaken_clock (n : Fin 32) (g : List LineParam) : (setLinesTaken n g s).clock = s.clock := by
  unfold setLinesTaken; dsimp only; split <;> simp

@[simp] theorem enterStab_clock (st : StabState) : (enterStab st s).clock = s.clock := by
  unfold enterStab; split <;> simp

@[simp] theorem setStabMode_clock (m : StabMode) : (setStabMode m s).clock = s.clock := by
  unfold setStabMode; dsimp only; (repeat' split) <;> simp

@[simp] theorem stabPowerNotice_clock (old new : PowerState) : (stabPowerNotice old new s).clock = s.clock := by
  unfold stabPowerNotice; dsimp only; (repeat' split) <;> simp

@[simp] theorem stabToggle_clock : (stabToggle s).clock = s.clock := by
  unfold stabToggle; (repeat' split) <;> simp

@[simp] theorem derivePower_clock : (derivePower s).clock = s.clock := by
  unfold derivePower powerNotice; dsimp only; split <;> simp

@[simp] theorem evalBattery_clock : (evalBattery s).clock = s.clock := by
  unfold evalBattery; split <;> simp

@[simp] theorem setPowerLimitsTaken_clock (n : Fin 32) (low empty : BitVec 16) :
    (setPowerLimitsTaken n low empty s).clock = s.clock := by
  unfold setPowerLimitsTaken; dsimp only; split <;> simp

/-! #### Stabiliser and scan -/

@[simp] theorem stabScan_clock : (stabScan s).clock = s.clock := by
  unfold stabScan; dsimp only; (repeat' split) <;> simp

@[simp] theorem computeSample_clock (a : Axis) (code : Nat) : (computeSample a code s).clock = s.clock := by
  unfold computeSample; dsimp only; split <;> simp

@[simp] theorem endCalibration_clock (st : Status) (c : Calibration) : (endCalibration st c s).clock = s.clock := by
  simp [endCalibration]

@[simp] theorem collectSample_clock (a : Axis) (code : Nat) : (collectSample a code s).clock = s.clock := by
  unfold collectSample calibrationDone; dsimp only; (repeat' split) <;> simp

@[simp] theorem gyroSample_clock (a : Axis) (code : Nat) : (gyroSample a code s).clock = s.clock := by
  unfold gyroSample; dsimp only; split <;> simp

@[simp] theorem cancelCalibration_clock : (cancelCalibration s).clock = s.clock := by
  unfold cancelCalibration; split <;> simp

@[simp] theorem stabModeTaken_clock (n : Fin 32) (mode : Byte) : (stabModeTaken n mode s).clock = s.clock := by
  unfold stabModeTaken; split <;> simp

@[simp] theorem stabParamsTaken_clock (n : Fin 32) (l p : BitVec 16) (d : Byte) (t k : BitVec 16) :
    (stabParamsTaken n l p d t k s).clock = s.clock := by simp [stabParamsTaken]

@[simp] theorem stabCalibrateTaken_clock (n : Fin 32) : (stabCalibrateTaken n s).clock = s.clock := by
  simp [stabCalibrateTaken]

@[simp] theorem scanFrameStarts_clock : (scanFrameStarts s).clock = s.clock := by simp [scanFrameStarts]

@[simp] theorem trackZ_clock (z : Nat) : (trackZ z s).clock = s.clock := by
  unfold trackZ; dsimp only; (repeat' split) <;> simp

@[simp] theorem converted_clock (ch : Channel) (code : BitVec 12) : (converted ch code s).clock = s.clock := by
  unfold converted handCode
  split
  · cases ch <;> simp [zoomSample, batterySample, dcSample, potSample]
  · rfl

/-! #### The slot unit -/

@[simp] theorem slotMisused_clock : (slotMisused s).clock = s.clock := by simp [slotMisused]

@[simp] theorem freeSlot_clock (n : Fin 32) : (freeSlot n s).clock = s.clock := rfl

theorem eachSlot_clock (v : BusWord) (f : Fin 32 → State → State) (h : ∀ n s, (f n s).clock = s.clock) :
    (eachSlot v f s).clock = s.clock :=
  foldl_clock _ _ (fun s n => by split <;> simp [h]) _

@[simp] theorem postSlot_clock (n : Fin 32) : (postSlot n s).clock = s.clock := by
  unfold postSlot; split <;> simp

@[simp] theorem releaseSlot_clock (n : Fin 32) : (releaseSlot n s).clock = s.clock := by
  unfold releaseSlot; split <;> simp

@[simp] theorem workBaseTaken_clock (v : BusWord) : (workBaseTaken v s).clock = s.clock := by
  unfold workBaseTaken; split <;> simp

@[simp] theorem fetchStarts_clock : (fetchStarts s).clock = s.clock := by
  unfold fetchStarts; (repeat' split) <;> simp

@[simp] theorem slotWrites_clock (w : BusEnd) (cells : List Host.Cell) : (slotWrites w cells s).clock = s.clock := by
  simp [slotWrites]

@[simp] theorem slotDone_clock (n : Fin 32) : (slotDone n s).clock = s.clock := rfl

@[simp] theorem joinLane_clock (n : Fin 32) (i : Instr) (l : LaneId) : (joinLane n i l s).clock = s.clock := by
  unfold joinLane; dsimp only; split <;> simp

@[simp] theorem fetchEnded_clock (n : Fin 32) (r : FetchEnd) (w : BusEnd) : (fetchEnded n r w s).clock = s.clock := by
  unfold fetchEnded; (repeat' split) <;> simp [fetchFailed, malformed]

@[simp] theorem laneStarts_clock (l : LaneId) : (laneStarts l s).clock = s.clock := by
  unfold laneStarts; (repeat' split) <;> simp

@[simp] theorem completionWritten_clock (w : BusEnd) : (completionWritten w s).clock = s.clock := by
  unfold completionWritten; dsimp only; (repeat' split) <;> simp

@[simp] theorem cancelStarted_clock (n : Fin 32) (k : RequestKind) : (cancelStarted n k s).clock = s.clock := by
  unfold cancelStarted; split <;> simp

@[simp] theorem cancelRunning_clock (k : RequestKind) : (cancelRunning k s).clock = s.clock := by
  unfold cancelRunning; split <;> simp

@[simp] theorem cancelTarget_clock (n : Fin 32) : (cancelTarget n s).2.clock = s.clock := by
  unfold cancelTarget cancelWaiting; (repeat' split) <;> simp

@[simp] theorem cancelTaken_clock (n : Fin 32) (target : Byte) : (cancelTaken n target s).clock = s.clock := by
  unfold cancelTaken; split <;> simp

@[simp] theorem spillWritten_clock (w : BusEnd) : (spillWritten w s).clock = s.clock := by
  unfold spillWritten; dsimp only; (repeat' split) <;> simp

/-! #### The viewfinder link -/

@[simp] theorem decoderError_clock : (decoderError s).clock = s.clock := rfl

@[simp] theorem buttonPressed_clock (b : VfButton) : (buttonPressed b s).clock = s.clock := by
  cases b <;> simp [buttonPressed]

@[simp] theorem buttonReleased_clock (b : VfButton) : (buttonReleased b s).clock = s.clock := by
  cases b <;> simp [buttonReleased]

@[simp] theorem buttonRecord_clock (code st : Byte) : (buttonRecord code st s).clock = s.clock := by
  unfold buttonRecord; dsimp only; (repeat' split) <;> simp

@[simp] theorem panelKeyRecord_clock (key st : Byte) : (panelKeyRecord key st s).clock = s.clock := by
  unfold panelKeyRecord; split <;> simp

@[simp] theorem focusDeltaRecord_clock (d : BitVec 16) : (focusDeltaRecord d s).clock = s.clock := by
  unfold focusDeltaRecord; dsimp only; split <;> simp

@[simp] theorem irisDeltaRecord_clock (d : Byte) : (irisDeltaRecord d s).clock = s.clock := by
  unfold irisDeltaRecord; split <;> simp

@[simp] theorem recordActs_clock (bytes : List Byte) : (recordActs bytes s).clock = s.clock := by
  unfold recordActs; dsimp only; split <;> simp [pointerRecord, rockerRecord]

@[simp] theorem decodeByte_clock (b : Byte) : (decodeByte b s).clock = s.clock := by
  unfold decodeByte; dsimp only; (repeat' split) <;> simp

@[simp] theorem decodeBoundary_clock (b : Boundary) : (decodeBoundary b s).clock = s.clock := by
  unfold decodeBoundary; (repeat' split) <;> simp

@[simp] theorem decoderTakes_clock : (decoderTakes s).clock = s.clock := by
  unfold decoderTakes; dsimp only; (repeat' split) <;> simp

@[simp] theorem takeRecord_clock (bytes : List Byte) : (takeRecord bytes s).clock = s.clock := by
  unfold takeRecord; split <;> simp

@[simp] theorem receiveBoundary_clock (m : Boundary) : (receiveBoundary m s).clock = s.clock := by
  unfold receiveBoundary; (repeat' split) <;> simp

@[simp] theorem endTransaction_clock : (endTransaction s).clock = s.clock := by
  simp [endTransaction, apply_ite State.clock]

@[simp] theorem addressByteTaken_clock (a : BitVec 7) (r : Bool) : (addressByteTaken a r s).clock = s.clock := by
  unfold addressByteTaken notePresence; (repeat' split) <;> simp

@[simp] theorem writeHoldExpired_clock : (writeHoldExpired s).clock = s.clock := by
  unfold writeHoldExpired; split <;> simp

@[simp] theorem axisHoldExpired_clock (a : WheelAxis) : (axisHoldExpired a s).clock = s.clock := by
  unfold axisHoldExpired focusHoldEnds irisHoldEnds; (repeat' split) <;> simp

@[simp] theorem withdrawOperator_clock : (withdrawOperator s).clock = s.clock := by
  unfold withdrawOperator
  extract_lets s₁ s₂ s₃ s₄ shot s₅
  have h₂ : s₂.clock = s₁.clock := by unfold s₂ zoomHoldEnds; split <;> simp
  have h₃ : s₃.clock = s₂.clock := by unfold s₃ focusHoldEnds; split <;> simp
  have h₄ : s₄.clock = s₃.clock := by unfold s₄ irisHoldEnds; split <;> simp
  have h₅ : s₅.clock = s.clock := by simp [s₅, h₄, h₃, h₂, s₁]
  split <;> simp [h₅]

@[simp] theorem presenceExpired_clock : (presenceExpired s).clock = s.clock := by
  unfold presenceExpired; split <;> simp

@[simp] theorem rebuildCompletes_clock : (rebuildCompletes s).clock = s.clock := by
  unfold rebuildCompletes releaseMarks
  split
  · exact foldl_clock _ _ (fun s m => decodeBoundary_clock s m) _
  · rfl

@[simp] theorem setVfTextTaken_clock (n : Fin 32) (l : Byte) (cs : List Byte) :
    (setVfTextTaken n l cs s).clock = s.clock := by
  unfold setVfTextTaken; dsimp only; split <;> simp

@[simp] theorem setVfConfigTaken_clock (n : Fin 32) (a : Byte) : (setVfConfigTaken n a s).clock = s.clock := by
  unfold setVfConfigTaken; dsimp only; split <;> simp

/-! #### Audio -/

@[simp] theorem syncGapExpired_clock : (syncGapExpired s).clock = s.clock := by
  unfold syncGapExpired; dsimp only; split <;> simp

@[simp] theorem recoveryExpired_clock : (recoveryExpired s).clock = s.clock := by
  unfold recoveryExpired; split <;> simp

@[simp] theorem configureChannel_clock (i : Fin 4) (g : AudioParam) : (configureChannel i g s).clock = s.clock := by
  unfold configureChannel audioSwitch; dsimp only; (repeat' split) <;> simp

@[simp] theorem audioConfigTaken_clock (n : Fin 32) (g : List AudioParam) :
    (audioConfigTaken n g s).clock = s.clock := by
  unfold audioConfigTaken
  split
  · rw [complete_clock]
    exact foldl_clock _ _ (fun s i => by split <;> simp) _
  · simp

@[simp] theorem audioLevelsTaken_clock (n : Fin 32) (h : Byte) (o l t : BitVec 16) (c : Byte) :
    (audioLevelsTaken n h o l t c s).clock = s.clock := by simp [audioLevelsTaken]

@[simp] theorem setEventLevelsTaken_clock (n : Fin 32) (l : List Byte) :
    (setEventLevelsTaken n l s).clock = s.clock := by simp [setEventLevelsTaken]

end

/-! #### The dispatch -/

/-- The commands that can change the frame clock: the resets, the four clock requests, the frame starts and the
reference edges. -/
def setsClock (c : Instr) : Bool :=
  match c with
  | .powerOnReset _ | .controllerReset | .controlWrite _ | .setVideoFormat _ _ _ | .setTc _ _ _ _ _ | .setTcMode _ _
  | .setGenlock _ _ | .frameStart _ | .dayLimitReached _ | .holdoverExpiry _ | .irisStall _ | .muteCountExpiry _ _
  | .limiterRelease _ _ | .agcRise _ _ | .referenceEdge _ | .missedEdge => true
  | _ => false

/-- Every other command leaves the frame clock as it was. -/
theorem exec_clock {c : Instr} {s t : State} (hc : setsClock c = false) (h : exec c s = .next t) :
    t.clock = s.clock := by
  cases c
  case powerOnReset | controllerReset | controlWrite | setVideoFormat | setTc | setTcMode | setGenlock | frameStart
    | dayLimitReached | holdoverExpiry | irisStall | muteCountExpiry | limiterRelease | agcRise | referenceEdge
    | missedEdge => cases hc
  all_goals obtain rfl := Host.Outcome.next.inj h.symm
  case recGuardExpiry | goodPulseExpiry | codecWriteEnd | audioFrame | registerWriteNoEffect | doneRead | eventsRead
    | writeDataByte | readByteAcknowledge => rfl
  case zoomSpeedExpiry | lensTableReadEnd | spillReadEnd | shotPressTimerExpiry | focusStep | cardLinkTimeout
    | headerReadEnd | blockWriteEnd | extentSourceError | indexWriteEnd | formatEnd =>
    exact clock_of_outside (by simp)
  case zoomMove | zoomSpeed | focusMove | irisSet | lensStop | loadLensTables | setTracking | shotPush | shotRecall
    | shotClear | setShotPolicy | setCue | formatCard | recStart | recStop | writeEssence | clearHalt | mark
    | setRecMode | listClips =>
    exact clock_of_outside (outside_serve _ _ _ _ (by simp))
  case getStatus | cancel | setEventLevels | setLines | setScan | setPowerLimits | stabMode | stabParams
    | stabCalibrate | audioConfig | audioLevels | setVfText | setVfConfig =>
    exact serve_clock _ _ _ (by simp [getStatusTaken, setScanTaken])
  case referencingFault | mountAfterResetStart =>
    split
    · exact clock_of_outside (by simp)
    · rfl
  case postWrite | releaseWrite => exact eachSlot_clock _ _ _ (fun n s => by simp)
  case spillWriteEnd | syncGapExpiry | recoveryTimerExpiry | workBaseWrite | fetchStart | laneStart
    | completionWritesEnd | lineRawChange | scanFrameStart | conversionComplete | addressByte | decoderTakeByte
    | pointer | rocker | focusDelta | irisDelta | button | panelKey | writeHoldTimeout | axisHoldExpiry
    | presenceTimerExpiry | pageRebuildComplete => simp
  case fetchEnd | debounceExpiry | channelStarved | zoomStall | stabSettled | panEntry | panExit | calibrationEnd
    | linkStart | linkStop | zoomHoldExpiry => split <;> simp [zoomHoldEnds]
end Sys2Proof.Machine
end

section
/-! PROOFS. What the clock unit makes of the clock, the frame start as its receivers leave the clock, and the labels
that stay valid. -/
namespace Sys2Proof.Machine
/-! ### What the clock's own operations make of the clock (R2, R7, R8, R10, R12) -/

section
variable (s : State)

@[simp] theorem setLock_clock (st : LockState) : (setLock st s).clock = { s.clock with lock := st } := by
  unfold setLock
  split
  next h => rw [← h]
  next => rfl

@[simp] theorem enterFree_clock : (enterFree s).clock = { s.clock with
    lock := .free, slew := 0, lockCount := 0, unlockCount := 0, holdover := 0, watchdog := none, missed := 0 } := by
  simp [enterFree]

@[simp] theorem enterAcquire_clock : (enterAcquire s).clock = { s.clock with
    lock := .acquire, lockCount := 0, watchdog := some 0, missed := 0 } := by
  simp [enterAcquire]

@[simp] theorem enterHoldover_clock : (enterHoldover s).clock = { s.clock with
    lock := .holdover, slew := 0, watchdog := none, holdover := 0 } := by
  simp [enterHoldover]

@[simp] theorem settleFrame_clock : (settleFrame s).clock = { s.clock with
    counter := 0, frameDue := false, period := ((s.clock.rate.period : Int) + s.clock.slew).toNat
    label := s.clock.nextLabel, delivered := some s.clock.nextLabel, preset := none } := by
  unfold settleFrame; dsimp only; split <;> simp

/-- The clock without its lock state, with the counts and the correction that go with it, and without the
recorded-frame flag: what no receiver of a frame-start notice changes. -/
def Clock.settled (c : Clock) : Clock := { c with
  lock := .free, slew := 0, lockCount := 0, unlockCount := 0, holdover := 0, watchdog := none, missed := 0
  recorded := false }

/-- The clock without the recorded-frame flag (R3). -/
def Clock.unrecorded (c : Clock) : Clock := { c with recorded := false }

/-- The record engine's use of the notice leaves the outside of its block alone but for the recorded-frame flag,
which is the clock's (R3, R116). -/
theorem recordFrame_outside (label : Label) : ∃ u, outside u = outside s
    ∧ (recordFrame label s = u
      ∨ recordFrame label s = { u with clock := { u.clock with recorded := u.recorder.state == .recording } }) := by
  unfold recordFrame
  extract_lets u
  have hu : outside u = outside s := by unfold u; (repeat' split) <;> simp
  refine ⟨u, hu, ?_⟩
  split
  · exact .inr rfl
  · exact .inl rfl

theorem recordFrame_unrecorded (label : Label) :
    (recordFrame label s).clock.unrecorded = s.clock.unrecorded := by
  obtain ⟨u, hu, h | h⟩ := recordFrame_outside s label <;> rw [h, ← clock_of_outside hu] <;> rfl

@[simp] theorem overTest_clock (i : Fin 4) : (overTest i s).clock = s.clock := by
  unfold overTest; dsimp only; (repeat' split) <;> simp

@[simp] theorem audioFrame_clock : (audioFrame s).clock = s.clock :=
  foldl_clock _ _ (fun s i => by simp [audioChannelFrame, audioMeterSteps]) _

@[simp] theorem pageFrame_clock (label : Label) : (pageFrame label s).clock = s.clock := rfl

@[simp] theorem lensFrame_clock : (lensFrame s).clock = s.clock := clock_of_outside (by simp)

@[simp] theorem cuesFrame_clock (label : Label) : (cuesFrame label s).clock = s.clock := clock_of_outside (by simp)

/-- Outside HOLDOVER the clock's own use of the notice changes nothing (R10). -/
theorem clockFrame_of_lock_ne (h : s.clock.lock ≠ .holdover) : clockFrame s = s := by
  simp [clockFrame, h]

/-- In HOLDOVER the frame is counted, and the 250th leads to FREE (R10). -/
theorem clockFrame_of_holdover (h : s.clock.lock = .holdover) : clockFrame s =
    if s.clock.holdover + 1 ≥ 250 then enterFree (updateClock (fun c => { c with holdover := c.holdover + 1 }) s)
    else updateClock (fun c => { c with holdover := c.holdover + 1 }) s := by
  simp [clockFrame, h]

theorem clockFrame_settled : (clockFrame s).clock.settled = s.clock.settled := by
  by_cases h : s.clock.lock = .holdover
  · rw [clockFrame_of_holdover s h]
    split <;> simp [Clock.settled]
  · rw [clockFrame_of_lock_ne s h]

theorem settled_of_unrecorded {c c' : Clock} (h : c.unrecorded = c'.unrecorded) : c.settled = c'.settled := by
  have := congrArg Clock.settled h
  exact this

theorem lock_of_unrecorded {c c' : Clock} (h : c.unrecorded = c'.unrecorded) : c.lock = c'.lock := by
  have := congrArg Clock.lock h
  exact this

/-- Outside HOLDOVER a receiver changes no more of the clock than the recorded-frame flag. -/
theorem receiveNotice_unrecorded (label : Label) (r : Receiver) (h : s.clock.lock ≠ .holdover) :
    (receiveNotice label r s).clock.unrecorded = s.clock.unrecorded := by
  cases r
  case record => exact recordFrame_unrecorded s label
  case clock => simp only [receiveNotice, clockFrame_of_lock_ne s h]
  all_goals simp [receiveNotice]

theorem receiveNotice_settled (label : Label) (r : Receiver) :
    (receiveNotice label r s).clock.settled = s.clock.settled := by
  cases r
  case record => exact settled_of_unrecorded (recordFrame_unrecorded s label)
  case clock => exact clockFrame_settled s
  all_goals simp [receiveNotice]

theorem deliverNotice_settled (label : Label) (order : List Receiver) :
    (deliverNotice label order s).clock.settled = s.clock.settled := by
  induction order generalizing s with
  | nil => rfl
  | cons r rest ih => exact (ih (receiveNotice label r s)).trans (receiveNotice_settled s label r)

theorem deliverNotice_unrecorded (label : Label) (order : List Receiver) (h : s.clock.lock ≠ .holdover) :
    (deliverNotice label order s).clock.unrecorded = s.clock.unrecorded := by
  induction order generalizing s with
  | nil => rfl
  | cons r rest ih =>
    have hr := receiveNotice_unrecorded s label r h
    exact (ih (receiveNotice label r s) (lock_of_unrecorded hr ▸ h)).trans hr

/-- A frame start makes of the clock what its settling makes of it, up to the lock state and the recorded-frame
flag (R2, R3, R12). -/
theorem frameStarts_settled (order : List Receiver) :
    (frameStarts order s).clock.settled = (settleFrame s).clock.settled :=
  deliverNotice_settled (settleFrame s) _ _

theorem frameStarts_unrecorded (order : List Receiver) (h : s.clock.lock ≠ .holdover) :
    (frameStarts order s).clock.unrecorded = (settleFrame s).clock.unrecorded :=
  deliverNotice_unrecorded (settleFrame s) _ _ (by simpa using h)

end

/-! ### The label stays valid (O8) -/

/-- The label of the new frame is valid: the pending preset's, the present one, or the present one plus a frame
(R12). -/
theorem Clock.nextLabel_valid {c : Clock} (h : c.LabelsValid) : c.nextLabel.valid c.rate c.drop = true := by
  obtain ⟨hlabel, -, hpreset⟩ := h
  unfold Clock.nextLabel
  split
  next p hp => exact hpreset p hp
  next =>
    split
    · exact addFrames_valid _ _ _ _
    · split
      · exact addFrames_valid _ _ _ _
      · exact hlabel

section
variable {s : State}

theorem labelsValid_of_settled {c c' : Clock} (h : c.settled = c'.settled) (hc : c'.LabelsValid) : c.LabelsValid := by
  have : c.settled.LabelsValid := h ▸ hc
  exact this

theorem settleFrame_labelsValid (h : s.clock.LabelsValid) : (settleFrame s).clock.LabelsValid := by
  rw [settleFrame_clock]
  exact ⟨Clock.nextLabel_valid h, h.2.1, fun p hp => nomatch hp⟩

theorem frameStarts_labelsValid (order : List Receiver) (h : s.clock.LabelsValid) :
    (frameStarts order s).clock.LabelsValid :=
  labelsValid_of_settled (frameStarts_settled s order) (settleFrame_labelsValid h)

theorem frameStartsIf_labelsValid (b : Bool) (order : List Receiver) (h : s.clock.LabelsValid) :
    (frameStartsIf b order s).clock.LabelsValid := by
  unfold frameStartsIf
  split
  · exact frameStarts_labelsValid order h
  · exact h

theorem countLock_labelsValid (e : Int) (h : s.clock.LabelsValid) : (countLock e s).clock.LabelsValid := by
  unfold countLock
  extract_lets n u
  split
  · simp only [updateClock_clock, setLock_clock]; exact h
  · exact h

theorem acquireEdge_labelsValid (e : Int) (order : List Receiver) (h : s.clock.LabelsValid) :
    (acquireEdge e order s).clock.LabelsValid := by
  refine countLock_labelsValid e ?_
  split
  · exact frameStarts_labelsValid order h
  · exact h

theorem enterAcquire_labelsValid (h : s.clock.LabelsValid) : (enterAcquire s).clock.LabelsValid := by
  rw [enterAcquire_clock]; exact h

theorem lockedEdge_labelsValid (e : Int) (order : List Receiver) (h : s.clock.LabelsValid) :
    (lockedEdge e order s).clock.LabelsValid := by
  unfold lockedEdge
  dsimp only
  split
  · exact h
  · split
    · exact acquireEdge_labelsValid e order (enterAcquire_labelsValid h)
    · exact h

theorem goodEdge_labelsValid (order : List Receiver) (h : s.clock.LabelsValid) :
    (goodEdge order s).clock.LabelsValid := by
  unfold goodEdge
  dsimp only
  split
  · exact acquireEdge_labelsValid _ order (enterAcquire_labelsValid h)
  · exact acquireEdge_labelsValid _ order (enterAcquire_labelsValid h)
  · exact acquireEdge_labelsValid _ order h
  · exact lockedEdge_labelsValid _ order h

theorem referenceEdgeTaken_labelsValid (order : List Receiver) (h : s.clock.LabelsValid) :
    (referenceEdgeTaken order s).clock.LabelsValid := by
  unfold referenceEdgeTaken
  (repeat' split)
  case h_4 => exact goodEdge_labelsValid order h
  all_goals exact h

theorem missedEdgeTaken_labelsValid (h : s.clock.LabelsValid) : (missedEdgeTaken s).clock.LabelsValid := by
  unfold missedEdgeTaken
  dsimp only
  (repeat' split)
  · rw [enterHoldover_clock]; exact h
  · exact h
  · exact h

/-- The label is brought into the new format; no preset is pending (R15). -/
theorem changeFormat_labelsValid {r : FrameRate} {d : Bool} (hd : d = true → r.dropCount.isSome = true)
    (hp : s.clock.preset = none) (h : s.clock.LabelsValid) : (changeFormat r d s).clock.LabelsValid := by
  have hl := reformatLabel_valid (r' := r) (d' := d) h.1
  have hpre : (s.clock.withPeriod r.period).preset = none := by unfold Clock.withPeriod; split <;> exact hp
  unfold changeFormat
  rw [recFormatNotice_clock]
  split
  · rw [enterAcquire_clock]; exact ⟨hl, hd, fun p hp => nomatch hpre.symm.trans hp⟩
  · rw [enterFree_clock]; exact ⟨hl, hd, fun p hp => nomatch hpre.symm.trans hp⟩

/-- A format in drop mode has labels to drop (R15). -/
theorem dropCount_of_formatOf {rate drop : Byte} {r : FrameRate} {d : Bool} (h : formatOf rate drop = some (r, d)) :
    d = true → r.dropCount.isSome = true := by
  unfold formatOf at h
  split at h
  next r' _ =>
    split at h
    · cases h
    · split at h
      · cases h
      next hdrop =>
        cases h
        intro hd
        simpa [beq_iff_eq.1 hd, ← Option.isSome_iff_ne_none] using hdrop
  next => cases h

theorem setVideoFormatTaken_labelsValid (n : Fin 32) (rate drop : Byte) (hp : s.clock.preset = none)
    (h : s.clock.LabelsValid) : (setVideoFormatTaken n rate drop s).clock.LabelsValid := by
  unfold setVideoFormatTaken
  dsimp only
  split
  · rw [complete_clock]; exact h
  next r d hf =>
    split
    · rw [complete_clock]; exact changeFormat_labelsValid (dropCount_of_formatOf hf) hp h
    · rw [complete_clock]; exact h

theorem setTcTaken_labelsValid (n : Fin 32) (l : Label) (h : s.clock.LabelsValid) :
    (setTcTaken n l s).clock.LabelsValid := by
  unfold setTcTaken
  dsimp only
  split
  next hr =>
    split
    · rw [completeFree_clock]; exact h
    · rw [keepRunning_clock]
      exact ⟨h.1, h.2.1, fun p hp => Option.some.inj hp ▸ Label.nextValid_valid hr⟩
  next => rw [completeFree_clock]; exact h

theorem setTcModeTaken_labelsValid (n : Fin 32) (mode : Byte) (h : s.clock.LabelsValid) :
    (setTcModeTaken n mode s).clock.LabelsValid := by
  unfold setTcModeTaken
  dsimp only
  (repeat' split) <;> simp only [complete_clock, recTcModeNotice_clock] <;> exact h

theorem setGenlockTaken_labelsValid (n : Fin 32) (enable : Byte) (h : s.clock.LabelsValid) :
    (setGenlockTaken n enable s).clock.LabelsValid := by
  unfold setGenlockTaken
  (repeat' split) <;> simp only [complete_clock, enterFree_clock] <;> exact h

theorem serve_labelsValid (n : Fin 32) (i : Instr) {run : State → State} (h : s.clock.LabelsValid)
    (hrun : (run s).clock.LabelsValid) : (serve n i run s).clock.LabelsValid := by
  unfold serve
  split
  · exact hrun
  · exact h

theorem powerOnState_clock (pins : BitVec 7) : (powerOnState pins s).clock = Clock.powerOn := by
  have report (c : CardSlot) (s : State) : (detectReport c s).clock = s.clock := by
    unfold detectReport; split <;> simp
  simp [powerOnState, report, powerOnValues]

theorem powerOn_labelsValid : Clock.powerOn.LabelsValid := ⟨by decide, by decide, fun p hp => nomatch hp⟩

theorem controllerResets_labelsValid (h : s.clock.LabelsValid) : (controllerResets s).clock.LabelsValid := by
  unfold controllerResets
  rw [focusHomeReport_clock]
  exact ⟨h.1, h.2.1, fun p hp => nomatch hp⟩

end

/-- Settles O8: by the command. Only the clock's own operations touch what the labels rest on. Each new label is a sum
of frames, which wraps within the day (`addFrames_valid`), or one moved past a dropped label. -/
theorem labelsStayValid : Obligations.LabelsStayValid := by
  intro c s t h hpreset hexec
  by_cases hc : setsClock c = false
  · rw [exec_clock hc hexec]; exact h
  · cases c
    case powerOnReset pins =>
      obtain rfl := Host.Outcome.next.inj hexec.symm
      rw [powerOnState_clock]; exact powerOn_labelsValid
    case controllerReset =>
      obtain rfl := Host.Outcome.next.inj hexec.symm
      exact controllerResets_labelsValid h
    case controlWrite v =>
      obtain rfl := Host.Outcome.next.inj hexec.symm
      split
      · exact controllerResets_labelsValid h
      · exact h
    case setVideoFormat n rate drop =>
      obtain rfl := Host.Outcome.next.inj hexec.symm
      have hp : s.clock.preset = none := by
        refine Decidable.byContradiction fun hne => ?_
        exact hpreset hne n rate drop rfl
      exact serve_labelsValid _ _ h (setVideoFormatTaken_labelsValid n rate drop hp h)
    case setTc n a b c d =>
      obtain rfl := Host.Outcome.next.inj hexec.symm
      exact serve_labelsValid _ _ h (setTcTaken_labelsValid n _ h)
    case setTcMode n mode =>
      obtain rfl := Host.Outcome.next.inj hexec.symm
      exact serve_labelsValid _ _ h (setTcModeTaken_labelsValid n mode h)
    case setGenlock n enable =>
      obtain rfl := Host.Outcome.next.inj hexec.symm
      exact serve_labelsValid _ _ h (setGenlockTaken_labelsValid n enable h)
    case frameStart order =>
      obtain rfl := Host.Outcome.next.inj hexec.symm
      exact frameStarts_labelsValid order h
    case dayLimitReached | holdoverExpiry | irisStall | muteCountExpiry | limiterRelease | agcRise =>
      obtain rfl := Host.Outcome.next.inj hexec.symm
      exact frameStartsIf_labelsValid _ _ h
    case referenceEdge order =>
      obtain rfl := Host.Outcome.next.inj hexec.symm
      exact referenceEdgeTaken_labelsValid order h
    case missedEdge =>
      obtain rfl := Host.Outcome.next.inj hexec.symm
      exact missedEdgeTaken_labelsValid h
    all_goals exact absurd rfl hc

end Sys2Proof.Machine
end

section
/-! PROOFS. Latches that are set and completions that are owed stand through the operations of a frame start. -/
namespace Sys2Proof.Machine
/-- Each latch set and each completion owed in one state stands in another, with the event levels the same. -/
structure Reported (e e' : Events) (q q' : List Completion) : Prop where
  levels : e'.levels = e.levels
  latches : ∀ i, e.latches.getLsbD i = true → e'.latches.getLsbD i = true
  completions : q ⊆ q'

/-- The state `s` has the event levels of `o`, every latch that is set in `o` and every completion owed in `o`. -/
def Keeps (o s : State) : Prop := Reported o.events s.events o.unit.completions s.unit.completions

theorem Keeps.refl (s : State) : Keeps s s := ⟨rfl, fun _ h => h, List.Subset.refl _⟩

section
variable {o s : State} (h : Keeps o s)
include h

theorem Keeps.isMuted_eq (c : EventClass) : isMuted c s = isMuted c o := by simp only [isMuted, h.levels]

theorem Keeps.isLatched_of (c : EventClass) (hl : isLatched c o = true) : isLatched c s = true := h.latches _ hl

theorem keeps_latch (c : EventClass) : Keeps o (latch c s) := by
  unfold Keeps latch Events.latch
  split
  · exact ⟨h.levels, h.latches, h.completions⟩
  · exact ⟨h.levels, fun i hi => by simp [evalAlert, h.latches i hi], h.completions⟩

theorem keeps_latchIf (b : Bool) (c : EventClass) : Keeps o (latchIf b c s) := by
  unfold latchIf
  split
  · exact keeps_latch h c
  · exact h

theorem keeps_completeWith (label : Option Label) (n : Fin 32) (status : Status) (result : List Byte) :
    Keeps o (completeWith label n status result s) := by
  unfold completeWith
  split
  · exact ⟨h.levels, h.latches, fun c hc => List.mem_append_left _ (h.completions hc)⟩
  · exact h

theorem keeps_complete (n : Fin 32) (status : Status) (result : List Byte) : Keeps o (complete n status result s) :=
  keeps_completeWith h none n status result

theorem keeps_keepRunning (n : Fin 32) : Keeps o (keepRunning n s) := by
  unfold keepRunning
  split <;> exact h

theorem keeps_foldl {α : Type} {f : State → α → State} (hf : ∀ s x, Keeps o s → Keeps o (f s x)) (l : List α) :
    Keeps o (l.foldl f s) := by
  induction l generalizing s with
  | nil => exact h
  | cons x rest ih => exact ih (hf s x h)

theorem keeps_setCard (c : CardSlot) (k : Card) : Keeps o (setCard c k s) := by
  cases c <;> exact h

omit h in
/-- Writing any other fields leaves the latches and the owed completions. -/
theorem keeps_mk_iff (c l sc p z f i cf t sh st a b rc au v q m br n pd) :
    Keeps o ⟨c, l, sc, p, z, f, i, cf, t, sh, st, a, b, rc, au, v, q, s.events, s.unit, m, br, n, pd⟩ ↔ Keeps o s :=
  Iff.rfl

theorem keeps_startNext (c : CardSlot) : Keeps o (startNext c s) := by
  unfold startNext; grind [keeps_mk_iff, keeps_setCard]

theorem keeps_setCardState (c : CardSlot) (st : CardState) : Keeps o (setCardState c st s) := by
  unfold setCardState; grind [keeps_mk_iff, keeps_setCard, keeps_latch, keeps_latchIf]

theorem keeps_checkPoint (c : CardSlot) : Keeps o (checkPoint c s) := by
  unfold checkPoint; grind [keeps_mk_iff, keeps_setCardState]

theorem keeps_select (c : CardSlot) : Keeps o (select c s) := by
  unfold select; grind [keeps_mk_iff, keeps_setCardState]

theorem keeps_deselect (c : CardSlot) : Keeps o (deselect c s) := by
  unfold deselect; grind [keeps_mk_iff, keeps_setCardState, keeps_checkPoint]

theorem keeps_queueExtent (c : CardSlot) (e : Extent) : Keeps o (queueExtent c e s) := by
  unfold queueExtent; grind [keeps_mk_iff, keeps_setCard, keeps_startNext, keeps_setCardState, keeps_checkPoint]

theorem keeps_indexRequest (c : CardSlot) (r : IndexRecord) : Keeps o (indexRequest c r s) := by
  unfold indexRequest; grind [keeps_mk_iff, keeps_setCard, keeps_startNext]

theorem keeps_updateOpen (f : Clip → Clip) : Keeps o (updateOpen f s) := by
  unfold updateOpen; grind [keeps_mk_iff]

theorem keeps_setTarget (c : CardSlot) (on : Bool) : Keeps o (setTarget c on s) := by
  unfold setTarget; grind [keeps_mk_iff]

theorem keeps_setRecState (st : RecState) : Keeps o (setRecState st s) := by
  unfold setRecState; grind [keeps_mk_iff, keeps_latch]

theorem keeps_updateExtent (slot : Fin 32) (place : Nat) (f : EssenceExtent → EssenceExtent) :
    Keeps o (updateExtent slot place f s) := by
  unfold updateExtent; grind [keeps_mk_iff]

theorem keeps_finishEssence (slot : Fin 32) : Keeps o (finishEssence slot s) := by
  unfold finishEssence; grind [keeps_mk_iff, keeps_complete]

theorem keeps_settle (otherwise : ExtentOutcome) (slot : Fin 32) (place : Nat) :
    Keeps o (settle otherwise slot place s) := by
  unfold settle; grind [keeps_mk_iff, keeps_updateExtent, keeps_finishEssence]

theorem keeps_discardAll (l : List Extent) : Keeps o (discardAll l s) :=
  keeps_foldl h (fun _ _ hs => keeps_settle hs _ _ _) l

theorem keeps_settleBySides (slot : Fin 32) (place : Nat) : Keeps o (settleBySides slot place s) := by
  unfold settleBySides; grind [keeps_mk_iff, keeps_settle]

theorem keeps_setSide (c : CardSlot) (side : Side) (slot : Fin 32) (place : Nat) :
    Keeps o (setSide c side slot place s) := by
  unfold setSide; grind [keeps_mk_iff, keeps_updateExtent]

theorem keeps_keepHeld (l : List Extent) : Keeps o (keepHeld l s) := by
  unfold keepHeld; grind [keeps_mk_iff, keeps_discardAll]

theorem keeps_toIdle : Keeps o (toIdle s) := by
  unfold toIdle; grind [keeps_mk_iff, keeps_setRecState, keeps_keepHeld]

theorem keeps_trimAfter : Keeps o (trimAfter s) := by
  unfold trimAfter; grind [keeps_mk_iff, keeps_discardAll]

theorem keeps_addMark (kind : MarkKind) (detail : Option Nat) : Keeps o (addMark kind detail s) := by
  unfold addMark; grind [keeps_mk_iff, keeps_updateOpen]

theorem keeps_degrade (c : CardSlot) : Keeps o (degrade c s) := by
  unfold degrade; grind [keeps_mk_iff, keeps_updateOpen, keeps_addMark]

theorem keeps_answerStart (source : StartSource) (status : Status) (result : List Byte) :
    Keeps o (answerStart source status result s) := by
  unfold answerStart; grind [keeps_mk_iff, keeps_complete]

theorem keeps_endStart (status : Status) (result : List Byte) : Keeps o (endStart status result s) := by
  unfold endStart; grind [keeps_mk_iff, keeps_answerStart]

theorem keeps_keepStart (source : StartSource) : Keeps o (keepStart source s) := by
  unfold keepStart; grind [keeps_mk_iff, keeps_keepRunning]

theorem keeps_startTaken (source : StartSource) : Keeps o (startTaken source s) := by
  unfold startTaken; grind [keeps_mk_iff, keeps_setRecState, keeps_answerStart, keeps_keepStart]

theorem keeps_clearRestart (status : Status) : Keeps o (clearRestart status s) := by
  unfold clearRestart; grind [keeps_mk_iff, keeps_trimAfter, keeps_endStart]

theorem keeps_abandonArming (status : Status) : Keeps o (abandonArming status s) := by
  unfold abandonArming; grind [keeps_mk_iff, keeps_toIdle, keeps_endStart]

theorem keeps_stopGiven (reason : StopReason) : Keeps o (stopGiven reason s) := by
  unfold stopGiven; grind [keeps_mk_iff, keeps_clearRestart, keeps_abandonArming]

theorem keeps_endStopRequest (status : Status) (result : List Byte) : Keeps o (endStopRequest status result s) := by
  unfold endStopRequest; grind [keeps_mk_iff, keeps_complete]

theorem keeps_dropTarget (c : CardSlot) : Keeps o (dropTarget c s) := by
  unfold dropTarget; grind [keeps_mk_iff, keeps_deselect, keeps_setTarget]

theorem keeps_breakClip : Keeps o (breakClip s) := by
  unfold breakClip
  extract_lets result s₁ s₂ r s₃ s₄ lists
  have h₂ : Keeps o s₂ := keeps_dropTarget (keeps_dropTarget (keeps_setRecState (keeps_updateOpen h _) _) _) _
  have h₄ : Keeps o s₄ := keeps_endStopRequest (keeps_endStart (s := s₃) h₂ _ _) _ _
  refine keeps_discardAll ?_ lists
  exact h₄

theorem keeps_closeToIdle : Keeps o (closeToIdle s) := by
  unfold closeToIdle; grind [keeps_mk_iff, keeps_setRecState, keeps_keepHeld]

theorem keeps_afterClose : Keeps o (afterClose s) := by
  unfold afterClose; grind [keeps_mk_iff, keeps_setRecState, keeps_endStart, keeps_closeToIdle]

theorem keeps_closeClip : Keeps o (closeClip s) := by
  unfold closeClip
  split
  · refine keeps_afterClose (keeps_endStopRequest ?_ _ _)
    exact keeps_latch (keeps_updateOpen (keeps_dropTarget (keeps_dropTarget h _) _) _) _
  · exact h

theorem keeps_closeIfIndexed : Keeps o (closeIfIndexed s) := by
  unfold closeIfIndexed; grind [keeps_mk_iff, keeps_closeClip]

theorem keeps_setAwait (c : CardSlot) (on : Bool) : Keeps o (setAwait c on s) := by
  unfold setAwait; grind [keeps_mk_iff]

theorem keeps_recordIndexAnswer (c : CardSlot) (lost : Bool) : Keeps o (recordIndexAnswer c lost s) := by
  unfold recordIndexAnswer; grind [keeps_mk_iff, keeps_updateOpen, keeps_setAwait]

theorem keeps_requestIndex (c : CardSlot) (owed : Bool) (k : Clip) : Keeps o (requestIndex c owed k s) := by
  unfold requestIndex; grind [keeps_mk_iff, keeps_indexRequest, keeps_recordIndexAnswer]

theorem keeps_drainIfDone : Keeps o (drainIfDone s) := by
  unfold drainIfDone; grind [keeps_mk_iff, keeps_closeIfIndexed, keeps_requestIndex]

theorem keeps_openSpan (c : CardSlot) : Keeps o (openSpan c s) := by
  unfold openSpan; grind [keeps_mk_iff, keeps_updateOpen]

theorem keeps_extentQueued (c : CardSlot) (e : Extent) (first : Nat) : Keeps o (extentQueued c e first s) := by
  unfold extentQueued; grind [keeps_mk_iff, keeps_updateOpen, keeps_updateExtent]

theorem keeps_tryQueue (c : CardSlot) (e : Extent) : Keeps o (tryQueue c e s).2 := by
  unfold tryQueue; grind [keeps_mk_iff, keeps_queueExtent, keeps_extentQueued]

theorem keeps_relayFrom (c : CardSlot) : Keeps o (relayFrom c s) :=
  keeps_latch (keeps_addMark (keeps_openSpan (keeps_setTarget (keeps_select (keeps_setTarget h _ _) _) _ _) _) _ _) _

theorem keeps_relayFull (c : CardSlot) (e : Extent) : Keeps o (relayFull c e s) := by
  unfold relayFull
  dsimp only
  have htry := keeps_tryQueue (keeps_relayFrom h c) (otherCard c) e
  split
  · split
    · exact htry
    all_goals exact keeps_settle (keeps_stopGiven (keeps_setTarget htry _ _) _) _ _ _
  · split <;> exact keeps_settle (keeps_stopGiven (keeps_setTarget h _ _) _) _ _ _

theorem keeps_failSide (c : CardSlot) (e : Extent) : Keeps o (failSide c e s) := by
  unfold failSide; grind [keeps_mk_iff, keeps_settleBySides, keeps_setSide]

theorem keeps_failAll (c : CardSlot) (l : List Extent) : Keeps o (failAll c l s) :=
  keeps_foldl h (fun _ _ hs => keeps_failSide hs _ _) l

theorem keeps_requeueAll (lost : CardSlot) (l : List Extent) : Keeps o (requeueAll lost l s) := by
  induction l generalizing s with
  | nil => exact h
  | cons e rest ih =>
    unfold requeueAll
    have htry := keeps_tryQueue h (otherCard lost) e
    dsimp only
    split
    · exact ih htry
    all_goals exact keeps_stopGiven (keeps_degrade (keeps_failAll (keeps_setTarget htry _ _) _ _) _) _

theorem keeps_lostElsewhere (c : CardSlot) (returned : List Extent) : Keeps o (lostElsewhere c returned s) := by
  unfold lostElsewhere; grind [keeps_mk_iff, keeps_degrade, keeps_failAll]

theorem keeps_loseClip (c : CardSlot) (returned : List Extent) : Keeps o (loseClip c returned s) := by
  unfold loseClip; grind [keeps_mk_iff, keeps_breakClip, keeps_failAll]

theorem keeps_lostInRelay (c : CardSlot) (returned : List Extent) : Keeps o (lostInRelay c returned s) := by
  unfold lostInRelay
  dsimp only
  split
  · exact keeps_failAll h _ _
  · split
    · exact keeps_setTarget h _ _
    · split
      · exact keeps_requeueAll (keeps_relayFrom (keeps_foldl h (fun _ _ hs => keeps_setSide hs _ _ _ _) _) _) _ _
      · exact keeps_loseClip h _ _

theorem keeps_lostInMirror (c : CardSlot) (returned : List Extent) : Keeps o (lostInMirror c returned s) := by
  unfold lostInMirror; grind [keeps_mk_iff, keeps_setTarget, keeps_degrade, keeps_failAll, keeps_loseClip]

theorem keeps_cardLost (c : CardSlot) (returned : List Extent) : Keeps o (cardLost c returned s) := by
  unfold cardLost; grind [keeps_mk_iff, keeps_drainIfDone, keeps_lostElsewhere, keeps_lostInRelay, keeps_lostInMirror]

theorem keeps_mirrorQueue (c : CardSlot) (e : Extent) : Keeps o (mirrorQueue c e s) := by
  unfold mirrorQueue; grind [keeps_mk_iff, keeps_setTarget, keeps_settle, keeps_setSide, keeps_degrade,
    keeps_stopGiven, keeps_tryQueue, keeps_loseClip]

theorem keeps_handOver (e : Extent) : Keeps o (handOver e s) := by
  unfold handOver; grind [keeps_mk_iff, keeps_settle, keeps_settleBySides, keeps_tryQueue, keeps_relayFull,
    keeps_cardLost, keeps_mirrorQueue]

theorem keeps_openOn (cards : List CardSlot) (label : Label) : Keeps o (openOn cards label s) := by
  unfold openOn
  extract_lets extents held k r s₁ s₂ s₃ s₄ s₅
  have h₂ : Keeps o s₂ := keeps_foldl (s := s₁) h (fun _ _ hs => keeps_setTarget hs _ _) _
  have h₃ : Keeps o s₃ := by
    unfold s₃
    split
    · exact keeps_degrade h₂ _
    · exact h₂
  have h₅ : Keeps o s₅ := keeps_foldl (keeps_setRecState h₃ _) (fun _ _ hs => keeps_handOver hs _) _
  exact keeps_endStart h₅ _ _

theorem keeps_clipOpens (label : Label) : Keeps o (clipOpens label s) := by
  unfold clipOpens
  split
  · exact keeps_toIdle (keeps_endStart h _ _)
  · exact keeps_openOn (keeps_foldl h (fun _ _ hs => keeps_select hs _) _) _ _

theorem keeps_deriveApplied : Keeps o (deriveApplied s) := by
  unfold deriveApplied; grind [keeps_mk_iff, keeps_latchIf]

theorem keeps_releaseZoom : Keeps o (releaseZoom s) := by
  unfold releaseZoom; grind [keeps_mk_iff, keeps_deriveApplied]

theorem keeps_updateLag : Keeps o (updateLag s) := by
  unfold updateLag; grind [keeps_mk_iff, keeps_latchIf, keeps_deriveApplied]

theorem keeps_aimFocus (target : Nat) : Keeps o (aimFocus target s) := by
  unfold aimFocus; grind [keeps_mk_iff, keeps_updateLag]

theorem keeps_recomputeD (fv : Nat) : Keeps o (recomputeD fv s) := by
  unfold recomputeD; grind [keeps_mk_iff]

theorem keeps_endHostZoom (status : Status) : Keeps o (endHostZoom status s) := by
  unfold endHostZoom; grind [keeps_mk_iff, keeps_complete]

theorem keeps_endHostFocus (status : Status) : Keeps o (endHostFocus status s) := by
  unfold endHostFocus; grind [keeps_mk_iff, keeps_complete]

theorem keeps_endHostIris (status : Status) : Keeps o (endHostIris status s) := by
  unfold endHostIris; grind [keeps_mk_iff, keeps_complete]

theorem keeps_stopFocus : Keeps o (stopFocus s) := by
  unfold stopFocus; grind [keeps_mk_iff, keeps_aimFocus]

theorem keeps_stopIris : Keeps o (stopIris s) := by
  unfold stopIris; grind [keeps_mk_iff, keeps_settle]

theorem keeps_cueAnswer (channel : Fin 4) (taken : Bool) : Keeps o (cueAnswer channel taken s) := by
  unfold cueAnswer; grind [keeps_mk_iff]

theorem keeps_shotOutcome (source : ShotSource) (status : Status) (result : List Byte) :
    Keeps o (shotOutcome source status result s) := by
  unfold shotOutcome; grind [keeps_mk_iff, keeps_complete, keeps_cueAnswer]

theorem keeps_withdrawClaims : Keeps o (withdrawClaims s) := by
  unfold withdrawClaims; grind [keeps_mk_iff, keeps_releaseZoom, keeps_stopFocus, keeps_stopIris]

theorem keeps_abortRecall (status : Status) : Keeps o (abortRecall status s) := by
  unfold abortRecall; grind [keeps_mk_iff, keeps_shotOutcome, keeps_withdrawClaims]

theorem keeps_finishRecall (r : Recall) : Keeps o (finishRecall r s) := by
  unfold finishRecall; grind [keeps_mk_iff, keeps_deriveApplied, keeps_shotOutcome]

theorem keeps_recallSettled (axis : LensAxis) : Keeps o (recallSettled axis s) := by
  unfold recallSettled; grind [keeps_mk_iff, keeps_finishRecall]

theorem keeps_evalZoom : Keeps o (evalZoom s) := by
  unfold evalZoom; grind [keeps_mk_iff, keeps_deriveApplied, keeps_releaseZoom, keeps_endHostZoom,
    keeps_recallSettled]

theorem keeps_focusArrived : Keeps o (focusArrived s) := by
  unfold focusArrived; grind [keeps_mk_iff, keeps_recomputeD, keeps_endHostFocus, keeps_recallSettled]

theorem keeps_irisSettleTest : Keeps o (irisSettleTest s) := by
  unfold irisSettleTest; grind [keeps_mk_iff, keeps_settle, keeps_endHostIris, keeps_recallSettled]

theorem keeps_irisStalled : Keeps o (irisStalled s) := by
  unfold irisStalled; grind [keeps_mk_iff, keeps_latch, keeps_settle, keeps_endHostIris, keeps_abortRecall]

theorem keeps_irisRamp : Keeps o (irisRamp s) := by
  unfold irisRamp; grind [keeps_mk_iff]

theorem keeps_lensFrame : Keeps o (lensFrame s) := by
  unfold lensFrame; grind [keeps_mk_iff, keeps_settle, keeps_irisSettleTest, keeps_irisStalled, keeps_irisRamp]

theorem keeps_keepSource (source : ShotSource) : Keeps o (keepSource source s) := by
  unfold keepSource; grind [keeps_mk_iff, keeps_keepRunning]

theorem keeps_pushTaken (source : ShotSource) : Keeps o (pushTaken source s) := by
  unfold pushTaken; grind [keeps_mk_iff, keeps_latch, keeps_shotOutcome, keeps_keepSource]

theorem keeps_claimZoom (entry : Shot) : Keeps o (claimZoom entry s) := by
  unfold claimZoom; grind [keeps_mk_iff, keeps_endHostZoom, keeps_abortRecall, keeps_evalZoom]

theorem keeps_claimFocus (entry : Shot) : Keeps o (claimFocus entry s) := by
  unfold claimFocus; grind [keeps_mk_iff, keeps_aimFocus, keeps_endHostFocus, keeps_abortRecall,
    keeps_recallSettled, keeps_focusArrived]

theorem keeps_claimIris (entry : Shot) : Keeps o (claimIris entry s) := by
  unfold claimIris; grind [keeps_mk_iff, keeps_endHostIris, keeps_abortRecall]

theorem keeps_beginMoves (source : ShotSource) (entry : Shot) (adjusted : Bool) :
    Keeps o (beginMoves source entry adjusted s) := by
  unfold beginMoves; grind [keeps_mk_iff, keeps_claimZoom, keeps_claimFocus, keeps_claimIris]

theorem keeps_recallTaken (source : ShotSource) : Keeps o (recallTaken source s) := by
  unfold recallTaken; grind [keeps_mk_iff, keeps_latch, keeps_shotOutcome, keeps_keepSource, keeps_beginMoves]

theorem keeps_deliverAction (n : Fin 4) (action : CueAction) : Keeps o (deliverAction n action s) := by
  unfold deliverAction; grind [keeps_mk_iff, keeps_addMark, keeps_startTaken, keeps_stopGiven, keeps_cueAnswer,
    keeps_pushTaken, keeps_recallTaken]

theorem keeps_fireCue (n : Fin 4) : Keeps o (fireCue n s) := by
  unfold fireCue; grind [keeps_mk_iff, keeps_latch, keeps_deliverAction]

theorem keeps_eachCue {f : Fin 4 → State → State} (hf : ∀ n s, Keeps o s → Keeps o (f n s)) : Keeps o (eachCue f s) :=
  keeps_foldl h (fun _ n hs => hf n _ hs) _

theorem keeps_cuesFrame (label : Label) : Keeps o (cuesFrame label s) := by
  unfold cuesFrame; grind [keeps_mk_iff, keeps_fireCue, keeps_eachCue]

theorem keeps_clearClipFlags : Keeps o (clearClipFlags s) := by
  unfold clearClipFlags; grind [keeps_mk_iff]

theorem keeps_reportFrames (frames : Nat) : Keeps o (reportFrames frames s) := by
  unfold reportFrames; grind [keeps_mk_iff, keeps_fireCue, keeps_eachCue]

theorem keeps_stopTakesEffect (reason : StopReason) : Keeps o (stopTakesEffect reason s) := by
  unfold stopTakesEffect; grind [keeps_mk_iff, keeps_updateOpen, keeps_setRecState, keeps_drainIfDone]

theorem keeps_countFrame : Keeps o (countFrame s) := by
  unfold countFrame; grind [keeps_mk_iff, keeps_updateOpen, keeps_stopGiven, keeps_reportFrames]

theorem keeps_openAtFrame (label : Label) : Keeps o (openAtFrame label s) := by
  unfold openAtFrame; grind [keeps_mk_iff, keeps_clipOpens, keeps_clearClipFlags, keeps_reportFrames]

theorem keeps_recordFrame (label : Label) : Keeps o (recordFrame label s) := by
  unfold recordFrame; grind [keeps_mk_iff, keeps_stopTakesEffect, keeps_countFrame, keeps_openAtFrame]

theorem keeps_overTest (i : Fin 4) : Keeps o (overTest i s) := by
  unfold overTest; grind [keeps_mk_iff, keeps_latch, keeps_addMark]

theorem keeps_audioMeterSteps (i : Fin 4) : Keeps o (audioMeterSteps i s) := by
  unfold audioMeterSteps; grind [keeps_mk_iff, keeps_overTest]

theorem keeps_audioChannelFrame (i : Fin 4) : Keeps o (audioChannelFrame i s) := by
  unfold audioChannelFrame; grind [keeps_mk_iff, keeps_audioMeterSteps]

theorem keeps_audioFrame : Keeps o (audioFrame s) :=
  keeps_foldl h (fun _ _ hs => keeps_audioChannelFrame hs _) _

theorem keeps_pageFrame (label : Label) : Keeps o (pageFrame label s) := by
  unfold pageFrame; grind [keeps_mk_iff]


/-! #### The frame start -/

theorem keeps_setLock (st : LockState) : Keeps o (setLock st s) := by
  unfold setLock
  split
  · exact h
  · refine keeps_latch ?_ _
    exact h

theorem keeps_enterFree : Keeps o (enterFree s) := keeps_setLock h .free

theorem keeps_clockFrame : Keeps o (clockFrame s) := by
  unfold clockFrame
  dsimp only
  (repeat' split)
  · refine keeps_enterFree ?_
    exact h
  · exact h
  · exact h

theorem keeps_settleFrame : Keeps o (settleFrame s) := by
  unfold settleFrame
  dsimp only
  split
  · refine keeps_completeWith ?_ _ _ _ _
    exact h
  · exact h

theorem keeps_receiveNotice (label : Label) (r : Receiver) : Keeps o (receiveNotice label r s) := by
  cases r
  case record => exact keeps_recordFrame h label
  case audio => exact keeps_audioFrame h
  case lens => exact keeps_lensFrame h
  case page => exact keeps_pageFrame h label
  case cues => exact keeps_cuesFrame h label
  case clock => exact keeps_clockFrame h

theorem keeps_deliverNotice (label : Label) (order : List Receiver) : Keeps o (deliverNotice label order s) :=
  keeps_foldl h (fun _ r hs => keeps_receiveNotice hs label r) order

theorem keeps_frameStarts (order : List Receiver) : Keeps o (frameStarts order s) :=
  keeps_deliverNotice (keeps_settleFrame h) _ _

end

/-- A class whose level is not 0 is latched by a latch (R171). -/
theorem isLatched_latch {c : EventClass} {s : State} (h : isMuted c s = false) : isLatched c (latch c s) = true := by
  have hl : s.events.levels[c.bit.val] ≠ 0 := by simpa [isMuted] using h
  simp [isLatched, latch, evalAlert, Events.latch, hl, EventClass.mask]

end Sys2Proof.Machine
end

section
/-! PROOFS. The frame start: what it leaves alone, what it settles, and the page it begins. -/
namespace Sys2Proof.Machine

/-! ### What a frame start leaves alone (R3) -/

/-- The blocks that no receiver of a frame-start notice changes, and main memory. -/
def offFrame (s : State) : Vector Line 7 × Scan × Power × Stab × List Host.Cell :=
  (s.lines, s.scan, s.power, s.stab, s.mem)

theorem offFrame_of_outside {s t : State} (h : outside t = outside s) : offFrame t = offFrame s :=
  congrArg (fun o : Outside => (o.lines, o.scan, o.power, o.stab, o.mem)) h

theorem vf_of_outside {s t : State} (h : outside t = outside s) : t.vf = s.vf := congrArg Outside.vf h

section
variable (s : State)

/-- The meter and over steps of a channel touch the outside only in the audio block (R143). -/
theorem overTest_beside (i : Fin 4) : offFrame (overTest i s) = offFrame s ∧ (overTest i s).vf = s.vf := by
  unfold overTest
  dsimp only
  have mark (k : MarkKind) (d : Option Nat) (s : State) : offFrame (addMark k d s) = offFrame s
      ∧ (addMark k d s).vf = s.vf := ⟨offFrame_of_outside (by simp), vf_of_outside (by simp)⟩
  (repeat' split)
  · exact mark _ _ _
  · exact mark _ _ _
  · exact ⟨rfl, rfl⟩
  · exact ⟨rfl, rfl⟩

theorem audioFrame_beside : offFrame (audioFrame s) = offFrame s ∧ (audioFrame s).vf = s.vf := by
  unfold audioFrame
  induction List.finRange 4 generalizing s with
  | nil => exact ⟨rfl, rfl⟩
  | cons i rest ih =>
    obtain ⟨hoff, hvf⟩ := ih (audioChannelFrame i s)
    obtain ⟨hoff', hvf'⟩ := overTest_beside
      { s with audio := s.audio.update i fun c =>
          { (c.close s.audio.lost).meter s.audio.holdTime with
            spacing := ((c.close s.audio.lost).meter s.audio.holdTime).spacing - 1 } } i
    exact ⟨hoff.trans hoff', hvf.trans hvf'⟩

theorem recordFrame_beside (label : Label) :
    offFrame (recordFrame label s) = offFrame s ∧ (recordFrame label s).vf = s.vf := by
  obtain ⟨u, hu, h⟩ := recordFrame_outside s label
  have hoff := offFrame_of_outside hu
  have hvf := vf_of_outside hu
  rcases h with h | h <;> rw [h] <;> exact ⟨hoff, hvf⟩

theorem clockFrame_beside : offFrame (clockFrame s) = offFrame s ∧ (clockFrame s).vf = s.vf := by
  have lock (st : LockState) (s : State) : offFrame (setLock st s) = offFrame s ∧ (setLock st s).vf = s.vf := by
    unfold setLock; split <;> exact ⟨rfl, rfl⟩
  unfold clockFrame
  dsimp only
  (repeat' split)
  · exact lock _ _
  · exact ⟨rfl, rfl⟩
  · exact ⟨rfl, rfl⟩

theorem receiveNotice_offFrame (label : Label) (r : Receiver) : offFrame (receiveNotice label r s) = offFrame s := by
  cases r
  case record => exact (recordFrame_beside s label).1
  case audio => exact (audioFrame_beside s).1
  case page => rfl
  case clock => exact (clockFrame_beside s).1
  case lens | cues => exact offFrame_of_outside (by simp [receiveNotice])

theorem receiveNotice_vf (label : Label) {r : Receiver} (h : r ≠ .page) : (receiveNotice label r s).vf = s.vf := by
  cases r
  case record => exact (recordFrame_beside s label).2
  case audio => exact (audioFrame_beside s).2
  case page => exact absurd rfl h
  case clock => exact (clockFrame_beside s).2
  case lens | cues => exact vf_of_outside (by simp [receiveNotice])

theorem deliverNotice_offFrame (label : Label) (order : List Receiver) :
    offFrame (deliverNotice label order s) = offFrame s := by
  induction order generalizing s with
  | nil => rfl
  | cons r rest ih => exact (ih (receiveNotice label r s)).trans (receiveNotice_offFrame s label r)

theorem deliverNotice_vf (label : Label) {order : List Receiver} (h : Receiver.page ∉ order) :
    (deliverNotice label order s).vf = s.vf := by
  induction order generalizing s with
  | nil => rfl
  | cons r rest ih =>
    obtain ⟨hr, hrest⟩ := not_or.1 (mt List.mem_cons.2 h)
    exact (ih (receiveNotice label r s) hrest).trans (receiveNotice_vf s label (Ne.symm hr))

theorem settleFrame_beside : offFrame (settleFrame s) = offFrame s ∧ (settleFrame s).vf = s.vf := by
  unfold settleFrame
  dsimp only
  split
  · exact ⟨(offFrame_of_outside (outside_completeWith ..)).trans rfl,
      (vf_of_outside (outside_completeWith ..)).trans rfl⟩
  · exact ⟨rfl, rfl⟩

theorem frameStarts_offFrame (order : List Receiver) : offFrame (frameStarts order s) = offFrame s :=
  (deliverNotice_offFrame (settleFrame s) _ _).trans (settleFrame_beside s).1

theorem completeWith_frame (label : Option Label) (n : Fin 32) (status : Status) (result : List Byte) :
    completeWith label n status result s
      = { s with unit := (completeWith label n status result s).unit } := by
  unfold completeWith; split <;> rfl

theorem mem_completions_completeWith (label : Option Label) {n : Fin 32} (status : Status) (result : List Byte)
    (h : s.unit.slots[n].state.inService = true) :
    ⟨n, s.unit.workBase, status, result.take 240, label, true⟩
      ∈ (completeWith label n status result s).unit.completions := by
  unfold completeWith
  rw [if_pos h]
  exact List.mem_append_right _ List.mem_cons_self

theorem settleFrame_frame : settleFrame s
    = { s with clock := (settleFrame s).clock, unit := (settleFrame s).unit } := by
  unfold settleFrame
  dsimp only
  split
  · rw [completeWith_frame]; rfl
  · rfl

/-- A pending preset that takes effect completes its SET_TC (R16). -/
theorem mem_completions_settleFrame {p : Preset} (hp : s.clock.preset = some p)
    (h : s.unit.slots[p.slot].state.inService = true) :
    ⟨p.slot, s.unit.workBase, okStatus p.adjusted, labelBytes p.label, some p.label, true⟩
      ∈ (settleFrame s).unit.completions := by
  unfold settleFrame
  simp only [hp]
  refine mem_completions_completeWith _ _ _ _ ?_
  exact h

theorem mem_receiverOrder (r : Receiver) (order : List Receiver) : r ∈ receiverOrder order := by
  refine List.mem_eraseDups.2 (List.mem_append_right _ ?_)
  cases r <;> decide

/-- An order that names a receiver first stands with that receiver first, and nowhere else (log 5). -/
theorem receiverOrder_cons (r : Receiver) (rest : List Receiver) :
    ∃ others, receiverOrder (r :: rest) = r :: others ∧ r ∉ others := by
  unfold receiverOrder
  rw [List.cons_append, List.eraseDups_cons]
  exact ⟨_, rfl, by simp [List.mem_eraseDups]⟩

end

/-! ### The page of a frame start (R159, R160) -/

theorem alertList_length (s : State) : (alertList s).length = 4 := by
  simp [alertList]

/-- The 40 bytes of a page beside the host text, and the text's characters, up to 24. -/
theorem composePage_length (label : Label) (s : State) :
    (composePage label s).length = if s.vf.text.length ≥ 24 then 64 else 40 + s.vf.text.length := by
  simp only [composePage, labelBytes, field16, field24, littleEndian, List.length_append, List.length_map,
    List.length_cons, List.length_nil, List.length_take, List.length_replicate, Vector.length_toList,
    alertList_length]
  split <;> omega

theorem composePage_label (label : Label) (s : State) :
    ((composePage label s).drop 2).take 4 = labelBytes label := by
  simp [composePage, labelBytes]

/-- The page shown and the values that a rebuild leaves as they are (R159). -/
def sameShown (v w : Viewfinder) : Prop :=
  w.shown = v.shown ∧ w.version = v.version ∧ w.text = v.text ∧ ∀ b, v.shown = some b → w.page b = v.page b

/-- A rebuild has begun of a page with a label, with the page shown as it was (R159, R160). -/
def pageBegun (label : Label) (v w : Viewfinder) : Prop :=
  sameShown v w ∧ w.build = .building 40500
    ∧ (w.page w.building).length = (if v.text.length ≥ 24 then 64 else 40 + v.text.length)
    ∧ ((w.page w.building).drop 2).take 4 = labelBytes label

theorem pageFrame_page (label : Label) (s : State) :
    (pageFrame label s).vf.page (pageFrame label s).vf.building = composePage label s := by
  cases h : s.vf.shown with
  | none => simp [pageFrame, Viewfinder.building, Viewfinder.withPage, Viewfinder.page, h]
  | some b => cases b <;> simp [pageFrame, Viewfinder.building, Viewfinder.withPage, Viewfinder.page, h]

theorem pageFrame_sameShown (label : Label) (s : State) : sameShown s.vf (pageFrame label s).vf := by
  cases h : s.vf.shown with
  | none => simp [sameShown, pageFrame, Viewfinder.building, Viewfinder.withPage, h]
  | some b => cases b <;> simp [sameShown, pageFrame, Viewfinder.building, Viewfinder.withPage, Viewfinder.page, h]

theorem sameShown_trans {u v w : Viewfinder} (h : sameShown u v) (h' : sameShown v w) : sameShown u w := by
  obtain ⟨hshown, hversion, htext, hpage⟩ := h
  obtain ⟨hshown', hversion', htext', hpage'⟩ := h'
  exact ⟨hshown'.trans hshown, hversion'.trans hversion, htext'.trans htext,
    fun b hb => (hpage' b (hshown.trans hb)).trans (hpage b hb)⟩

/-- The link's use of the notice begins the page, whatever receivers were before it. -/
theorem pageFrame_begins {v : Viewfinder} {s : State} (label : Label) (h : sameShown v s.vf) :
    pageBegun label v (pageFrame label s).vf := by
  refine ⟨sameShown_trans h (pageFrame_sameShown label s), rfl, ?_, ?_⟩
  · rw [pageFrame_page, composePage_length, h.2.2.1]
  · rw [pageFrame_page, composePage_label]

theorem deliverNotice_pageBegun {v : Viewfinder} (label : Label) {order : List Receiver} {s : State}
    (h : pageBegun label v s.vf) : pageBegun label v (deliverNotice label order s).vf := by
  induction order generalizing s with
  | nil => exact h
  | cons r rest ih =>
    refine ih (s := receiveNotice label r s) ?_
    by_cases hr : r = .page
    · subst hr; exact pageFrame_begins label h.1
    · rw [receiveNotice_vf s label hr]; exact h

/-- A notice that the link takes begins the page. -/
theorem deliverNotice_begins {v : Viewfinder} (label : Label) {order : List Receiver} {s : State}
    (hmem : Receiver.page ∈ order) (h : sameShown v s.vf) : pageBegun label v (deliverNotice label order s).vf := by
  induction order generalizing s with
  | nil => cases hmem
  | cons r rest ih =>
    by_cases hr : r = .page
    · subst hr
      exact deliverNotice_pageBegun (s := pageFrame label s) label (pageFrame_begins label h)
    · have hrest : Receiver.page ∈ rest := (List.mem_cons.1 hmem).resolve_left (Ne.symm hr)
      exact ih (s := receiveNotice label r s) hrest (by rwa [receiveNotice_vf s label hr])

theorem sameShown_refl (v : Viewfinder) : sameShown v v := ⟨rfl, rfl, rfl, fun _ _ => rfl⟩

theorem frameStarts_label (order : List Receiver) (s : State) :
    (frameStarts order s).clock.label = s.clock.nextLabel := by
  have h := congrArg Clock.label (frameStarts_settled s order)
  rw [settleFrame_clock] at h
  exact h

theorem frameStarts_begins (order : List Receiver) (s : State) :
    pageBegun (frameStarts order s).clock.label s.vf (frameStarts order s).vf := by
  rw [frameStarts_label]
  have hlabel : (settleFrame s).clock.label = s.clock.nextLabel := by rw [settleFrame_clock]
  rw [← hlabel]
  refine deliverNotice_begins _ (mem_receiverOrder .page order) ?_
  rw [(settleFrame_beside s).2]
  exact sameShown_refl _

/-- Where the link takes the notice first, the page is composed of the state as the settling leaves it. -/
theorem frameStarts_page_first (rest : List Receiver) (s : State) :
    (frameStarts (.page :: rest) s).vf.page (frameStarts (.page :: rest) s).vf.building
      = composePage s.clock.nextLabel (settleFrame s) := by
  obtain ⟨others, horder, hothers⟩ := receiverOrder_cons .page rest
  have hvf : (frameStarts (.page :: rest) s).vf = (pageFrame s.clock.nextLabel (settleFrame s)).vf := by
    have hlabel : (settleFrame s).clock.label = s.clock.nextLabel := by rw [settleFrame_clock]
    unfold frameStarts
    rw [horder, ← hlabel]
    exact deliverNotice_vf (pageFrame _ (settleFrame s)) _ hothers
  rw [hvf, pageFrame_page]

end Sys2Proof.Machine
end

section
/-! PROOFS. A frame start settles the label and begins the page (O29). -/
namespace Sys2Proof.Machine

/-! ### The page in the words of section 11.6 -/

/-- The minutes that remain on a card, by its state (R160). -/
theorem remainingMinutes_eq (bitrate : Nat) (k : Card) : remainingMinutes bitrate k =
    if k.state = .ready ∨ k.state = .active ∨ k.state = .full then
      (k.capacity - k.committed - k.reserved) * 524288 / (bitrate * 60000000)
    else if k.state = .protect then 0 else 65535 := by
  unfold remainingMinutes Card.free
  cases k.state <;> simp

/-- The flag bits of a byte, bit 0 first. -/
def flagByte (l : List Bool) : Byte := byteOf ((l.mapIdx fun i b => if b then 2 ^ i else 0).sum : Nat)

theorem packed_flags_four (a b c d : Bool) :
    packed [(bit a, 0), (bit b, 1), (bit c, 2), (bit d, 3)] = flagByte [a, b, c, d] := by
  revert a b c d; decide

theorem packed_flags_five (a b c d e : Bool) :
    packed [(bit a, 0), (bit b, 1), (bit c, 2), (bit d, 3), (bit e, 4)] = flagByte [a, b, c, d, e] := by
  revert a b c d e; decide

theorem packed_states (p q : Nat) (x y : Bool) : packed [(p, 0), (q, 2), (bit x, 5), (bit y, 6)]
    = byteOf (p + 4 * q + (if x then 32 else 0) + (if y then 64 else 0) : Nat) := by
  cases x <;> cases y <;> simp [packed, bit, Nat.mul_comm]

theorem packed_nibbles (p q : Nat) : packed [(p, 0), (q, 4)] = byteOf (p + 16 * q : Nat) := by
  simp [packed, Nat.mul_comm]

theorem toList_eq_four {α : Type} (v : Vector α 4) : v.toList = [v[0], v[1], v[2], v[3]] := by
  refine List.ext_getElem (by simp) fun i hi _ => ?_
  simp only [Vector.length_toList] at hi
  rw [Vector.getElem_toList]
  obtain rfl | rfl | rfl | rfl : i = 0 ∨ i = 1 ∨ i = 2 ∨ i = 3 := by omega
  all_goals rfl

theorem tally_eq (r : Recorder) :
    tally r = ((r.state == .recording || r.state == .stopping) && r.pulse.isNone) := by
  unfold tally
  cases r.state <;> rfl

/-- The alert list as the bytes of the page. -/
theorem alertList_bytes (s : State) : (alertList s).map (fun (c : Nat) => byteOf c)
    = (((alertConditions s).filter fun (c : Nat × Bool) => c.2).map (fun (c : Nat × Bool) => byteOf c.1)
        ++ List.replicate 4 0).take 4 := by
  simp only [alertList, List.map_take, List.map_append, List.map_map, List.map_replicate]
  rfl

/-- The page that the receiver of the notice composes is laid out as section 11.6 says. -/
theorem composePage_eq (label : Label) (s : State) (htext : s.vf.text.length = 24) :
    composePage label s =
      [0, flagByte [(s.recorder.state == .recording || s.recorder.state == .stopping) && s.recorder.pulse.isNone,
        s.clock.drop, s.clock.mode == .recRun, s.clock.genlock, s.clock.lock == .locked]]
      ++ labelBytes label
      ++ field16 ((openClip s).map Clip.number |>.getD 0) ++ field24 ((openClip s).map Clip.frames |>.getD 0)
      ++ [byteOf (s.cardA.state.code + 16 * s.cardB.state.code : Nat)]
      ++ field16 (remainingMinutes s.recorder.bitrate s.cardA)
      ++ field16 (remainingMinutes s.recorder.bitrate s.cardB)
      ++ [byteOf (batteryPercent s.power.filter s.power.empty),
        byteOf (s.power.state.code + 4 * s.stab.state.code + (if s.stab.yaw.saturated then 32 else 0)
          + (if s.stab.pitch.saturated then 64 else 0) : Nat)]
      ++ [levelByte s.audio.channels[0].held, levelByte s.audio.channels[1].held,
        levelByte s.audio.channels[2].held, levelByte s.audio.channels[3].held,
        flagByte (s.audio.channels.toList.map AudioChannel.overFlag)]
      ++ field16 (s.zoom.z.getD 0) ++ field16 (s.focus.pos.getD 0) ++ [byteOf (s.iris.pos.getD 0)]
      ++ field16 s.track.d ++ [byteOf s.shots.depth]
      ++ (((alertConditions s).filter fun (c : Nat × Bool) => c.2).map (fun (c : Nat × Bool) => byteOf c.1)
        ++ List.replicate 4 0).take 4
      ++ s.vf.text ++ List.replicate 5 0 := by
  have hchars : s.vf.text.take 24 = s.vf.text := List.take_of_length_le (Nat.le_of_eq htext)
  unfold composePage
  rw [packed_flags_five, packed_flags_four, packed_states, packed_nibbles, tally_eq, toList_eq_four,
    alertList_bytes, hchars]
  cases openClip s <;> simp [Shots.depth]

/-- The settling of the label leaves every field of the page but the label as it is. -/
theorem composePage_settleFrame (label : Label) (s : State) :
    composePage label (settleFrame s) = composePage label s := by
  have hclock := settleFrame_clock s
  rw [settleFrame_frame]
  simp only [composePage, alertList, alertConditions, openClip, mediaNearEnd, hclock]

/-! ### The settlement of O29 -/

theorem nextLabel_eq (c : Clock) : c.nextLabel = match c.preset with
    | some p => p.label
    | none => if c.mode = .freeRun ∨ c.recorded = true then addFrames c.rate c.drop c.label 1 else c.label := by
  unfold Clock.nextLabel
  cases c.preset <;> cases c.mode <;> simp

/-- Settles O29: each receiver keeps what the settling of the label set, and the link's use of the notice begins the
page. -/
theorem frameStartSettlesTheLabel : Obligations.FrameStartSettlesTheLabel := by
  refine ⟨fun order s => ?_, fun order s => ?_, fun rest s htext => ?_⟩
  · have hclock := frameStarts_settled s order
    rw [settleFrame_clock] at hclock
    have hoff := frameStarts_offFrame s order
    simp only [offFrame, Prod.mk.injEq] at hoff
    extract_lets label
    have hnext : s.clock.nextLabel = label := nextLabel_eq s.clock
    rw [hnext] at hclock
    refine ⟨frameStarts order s, rfl, congrArg Clock.counter hclock, congrArg Clock.frameDue hclock,
      congrArg Clock.period hclock, congrArg Clock.label hclock, congrArg Clock.delivered hclock,
      congrArg Clock.preset hclock, (congrArg Clock.rate hclock).trans rfl, (congrArg Clock.drop hclock).trans rfl,
      (congrArg Clock.mode hclock).trans rfl, fun p hp hserving => ?_, hoff⟩
    have hkeeps : Keeps (settleFrame s) (frameStarts order s) := keeps_deliverNotice (Keeps.refl _) _ _
    exact hkeeps.completions (mem_completions_settleFrame s hp hserving)
  · obtain ⟨⟨hshown, hversion, _, hpage⟩, hbuild, hlength, hlabel⟩ := frameStarts_begins order s
    exact ⟨frameStarts order s, rfl, hbuild, hshown, hversion, hlength, hlabel, hpage⟩
  · refine ⟨frameStarts (.page :: rest) s, rfl, ?_⟩
    have hpage := frameStarts_page_first rest s
    rw [composePage_settleFrame, ← frameStarts_label (.page :: rest) s, composePage_eq _ _ htext] at hpage
    extract_lets r bits minutes short noneReady ranks holding alerts meter
    have hminutes (k : Card) : remainingMinutes s.recorder.bitrate k = minutes k := remainingMinutes_eq _ k
    have hnear (k : Card) : nearEnd s.recorder.bitrate k = short k := by rw [nearEnd, hminutes]
    have hranks : alertConditions s = ranks := by simp only [alertConditions, mediaNearEnd, hnear]; rfl
    rw [hminutes, hminutes, hranks] at hpage
    exact hpage

end Sys2Proof.Machine
end

section
/-! PROOFS. What a reference edge does by its class and the lock state (O30). -/
namespace Sys2Proof.Machine

/-! ### The parts of an edge (R5, R8) -/

theorem slewOf_eq (e : Int) :
    slewOf e = if e.tdiv 8 > 54 then 54 else if e.tdiv 8 < -54 then -54 else e.tdiv 8 := by
  unfold slewOf clampInt
  split
  next => omega
  next => split <;> omega

theorem jumps_iff (e : Int) (s : State) : jumps e s = true ↔ 2700 < e.natAbs ∧ openClip s = none := by
  simp [jumps]

section
variable {s : State} (e : Int) (order : List Receiver)

theorem setLock_of_ne {st : LockState} (h : s.clock.lock ≠ st) :
    setLock st s = latch .refState (updateClock (fun c => { c with lock := st }) s) := if_neg h

theorem enterAcquire_of_ne (h : s.clock.lock ≠ .acquire) : enterAcquire s
    = latch .refState (updateClock
        (fun c => { c with lock := .acquire, lockCount := 0, watchdog := some 0, missed := 0 }) s) := by
  rw [enterAcquire, setLock_of_ne h]; rfl

variable {e}

/-- An error of more than 27 ticks that does not jump slews and starts the lock count again (R8). -/
theorem acquireEdge_far (hj : ¬(2700 < e.natAbs ∧ openClip s = none)) (he : 27 < e.natAbs) :
    acquireEdge e order s = updateClock (fun c => { c with lockCount := 0, slew := slewOf e }) s := by
  rw [acquireEdge, if_neg (mt (jumps_iff e s).1 hj), countLock]
  simp only [if_neg (by omega : ¬e.natAbs ≤ 27)]
  rfl

/-- An error within 27 ticks slews and counts toward the lock (R8). -/
theorem acquireEdge_near (he : e.natAbs ≤ 27) (hcount : s.clock.lockCount < 7) : acquireEdge e order s
    = updateClock (fun c => { c with lockCount := c.lockCount + 1, slew := slewOf e }) s := by
  rw [acquireEdge, if_neg (by rw [jumps_iff]; omega), countLock]
  simp only [if_pos he]
  exact if_neg (Nat.not_le.2 (Nat.succ_lt_succ hcount))

/-- The eighth such edge enters LOCKED (R8). -/
theorem acquireEdge_locks (he : e.natAbs ≤ 27) (hcount : 7 ≤ s.clock.lockCount) (hlock : s.clock.lock = .acquire) :
    acquireEdge e order s = latch .refState (updateClock (fun c => { c with
      lock := .locked, lockCount := c.lockCount + 1, unlockCount := 0, slew := slewOf e }) s) := by
  rw [acquireEdge, if_neg (by rw [jumps_iff]; omega), countLock]
  simp only [if_pos he]
  refine (if_pos (Nat.succ_le_succ hcount)).trans ?_
  rw [setLock_of_ne (by simp [slewEdge, updateClock, hlock])]
  rfl

/-- A larger error with no clip OPEN or CLOSING takes a frame start at once, with the slew at 0 (R2, R8). -/
theorem acquireEdge_jump (hj : 2700 < e.natAbs ∧ openClip s = none) :
    acquireEdge e order s = updateClock (fun c => { c with lockCount := 0 }) (phaseJump order s) := by
  have he : ¬e.natAbs ≤ 27 := by omega
  rw [acquireEdge, if_pos ((jumps_iff e s).2 hj), countLock]
  simp only [if_neg he]
  rfl

/-- The clock after a phase jump in ACQUIRE, up to the recorded-frame flag. -/
theorem phaseJump_unrecorded (h : s.clock.lock = .acquire) : (phaseJump order s).clock.unrecorded
    = { s.clock with
        slew := 0, counter := 0, frameDue := false, period := s.clock.rate.period
        label := s.clock.nextLabel, delivered := some s.clock.nextLabel, preset := none, recorded := false } := by
  have hlock : (updateClock (fun c => { c with slew := 0 }) s).clock.lock ≠ .holdover := by simp [updateClock, h]
  rw [phaseJump, frameStarts_unrecorded _ order hlock, settleFrame_clock]
  simp only [updateClock, Clock.unrecorded, Int.add_zero, Int.toNat_natCast]
  rfl

theorem phaseJump_offFrame : offFrame (phaseJump order s) = offFrame s :=
  (frameStarts_offFrame _ order).trans rfl

theorem phaseJump_keeps : Keeps s (phaseJump order s) :=
  keeps_frameStarts (o := s) (s := updateClock (fun c => { c with slew := 0 }) s)
    ⟨rfl, fun _ h => h, List.Subset.refl _⟩ order

end

/-! ### The classes and the lock states (R4, R7 to R10) -/

/-- The marks of a GOOD edge: the watchdog starts again and the missed edges are cleared (R4, R6). -/
def edgeSeen (s : State) : State :=
  { s with clock := { s.clock with prevEdge := some 0, watchdog := some 0, missed := 0 } }

/-- A GOOD edge that the ACQUIRE state takes, of a jump or not: the state in which it is taken there. -/
def acquiring (s : State) : State :=
  match s.clock.lock with
  | .free | .holdover => enterAcquire (edgeSeen s)
  | .acquire => edgeSeen s
  | .locked => enterAcquire (updateClock (fun c => { c with unlockCount := c.unlockCount + 1 })
      (slewEdge (phaseError s.clock.counter s.clock.rate.period) (edgeSeen s)))

section
variable {s : State} (order : List Receiver)

theorem referenceEdgeTaken_glitch (hg : s.clock.genlock = true)
    (h : classifyEdge s.clock.prevEdge s.clock.rate.period = .glitch) :
    referenceEdgeTaken order s = updateClock (fun c => { c with glitches := countUp c.glitches }) s := by
  rw [referenceEdgeTaken, if_pos hg, h]

theorem referenceEdgeTaken_first (hg : s.clock.genlock = true) (h : s.clock.prevEdge = none) :
    referenceEdgeTaken order s = updateClock (fun c => { c with prevEdge := some 0 }) s := by
  rw [referenceEdgeTaken, if_pos hg, h]
  rfl

theorem referenceEdgeTaken_mismatch (hg : s.clock.genlock = true)
    (h : classifyEdge s.clock.prevEdge s.clock.rate.period = .mismatch) : referenceEdgeTaken order s
      = latch .diag (updateClock (fun c => { c with prevEdge := some 0, mismatches := countUp c.mismatches }) s) := by
  rw [referenceEdgeTaken, if_pos hg, h]

theorem referenceEdgeTaken_good (hg : s.clock.genlock = true)
    (h : classifyEdge s.clock.prevEdge s.clock.rate.period = .good) :
    referenceEdgeTaken order s = goodEdge order s := by
  rw [referenceEdgeTaken, if_pos hg, h]

theorem classifyEdge_good {x p : Nat} (hx : p / 2 ≤ x) (hp : 100 * ((x : Int) - p).natAbs ≤ p) :
    classifyEdge (some x) p = .good := by
  rw [classifyEdge, if_neg (by omega), if_neg (by omega)]

theorem classifyEdge_mismatch {x p : Nat} (hx : p / 2 ≤ x) (hp : 100 * ((x : Int) - p).natAbs > p) :
    classifyEdge (some x) p = .mismatch := by
  rw [classifyEdge, if_neg (by omega), if_pos (by omega)]

theorem classifyEdge_glitch {x p : Nat} (hx : x < p / 2) : classifyEdge (some x) p = .glitch := if_pos hx

theorem goodEdge_locked (hlock : s.clock.lock = .locked) :
    goodEdge order s = lockedEdge (phaseError s.clock.counter s.clock.rate.period) order (edgeSeen s) := by
  unfold goodEdge
  extract_lets e u
  have hu : u.clock.lock = .locked := hlock
  simp only [hu]
  rfl

/-- In LOCKED an error within 270 ticks slews and clears the unlock count (R9). -/
theorem goodEdge_locked_within (hlock : s.clock.lock = .locked)
    (he : (phaseError s.clock.counter s.clock.rate.period).natAbs ≤ 270) : goodEdge order s
      = updateClock (fun c => { c with
          unlockCount := 0, slew := slewOf (phaseError s.clock.counter s.clock.rate.period) }) (edgeSeen s) := by
  rw [goodEdge_locked order hlock, lockedEdge, if_pos he]
  rfl

/-- The first larger error in LOCKED slews and counts (R9). -/
theorem goodEdge_locked_counts (hlock : s.clock.lock = .locked)
    (he : 270 < (phaseError s.clock.counter s.clock.rate.period).natAbs) (hcount : s.clock.unlockCount = 0) :
    goodEdge order s = updateClock (fun c => { c with
      unlockCount := 1, slew := slewOf (phaseError s.clock.counter s.clock.rate.period) }) (edgeSeen s) := by
  have hfirst : ¬s.clock.unlockCount + 1 ≥ 2 := by omega
  rw [goodEdge_locked order hlock, lockedEdge, if_neg (Nat.not_le.2 he)]
  refine (if_neg hfirst).trans ?_
  simp only [slewEdge, updateClock, edgeSeen, hcount]

/-- Every other GOOD edge is taken in ACQUIRE: in FREE and HOLDOVER, in ACQUIRE, and the second larger error in a row
in LOCKED (R7 to R10). -/
theorem goodEdge_acquires (h : s.clock.lock = .locked →
      270 < (phaseError s.clock.counter s.clock.rate.period).natAbs ∧ 1 ≤ s.clock.unlockCount) :
    goodEdge order s
      = acquireEdge (phaseError s.clock.counter s.clock.rate.period) order (acquiring s) := by
  unfold acquiring
  cases hlock : s.clock.lock with
  | locked =>
    obtain ⟨he, hcount⟩ := h hlock
    rw [goodEdge_locked order hlock, lockedEdge, if_neg (Nat.not_le.2 he)]
    exact if_pos (Nat.succ_le_succ hcount)
  | free | holdover | acquire =>
    unfold goodEdge
    extract_lets e u
    have hu : u.clock.lock = _ := hlock
    simp only [hu]
    rfl

theorem acquiring_of_acquire (h : s.clock.lock = .acquire) : acquiring s = edgeSeen s := by
  unfold acquiring; simp only [h]

theorem acquiring_of_unlocked (h : s.clock.lock = .free ∨ s.clock.lock = .holdover) : acquiring s
    = latch .refState (updateClock (fun c => { c with lock := .acquire, lockCount := 0 }) (edgeSeen s)) := by
  have hne : (edgeSeen s).clock.lock ≠ .acquire := by rcases h with h | h <;> simp [edgeSeen, h]
  have hacquiring : acquiring s = enterAcquire (edgeSeen s) := by
    unfold acquiring; rcases h with h | h <;> simp only [h]
  rw [hacquiring, enterAcquire_of_ne hne]
  rfl

theorem acquiring_of_locked (h : s.clock.lock = .locked) : acquiring s
    = latch .refState (updateClock (fun c => { c with
        lock := .acquire, lockCount := 0, unlockCount := c.unlockCount + 1
        slew := slewOf (phaseError s.clock.counter s.clock.rate.period) }) (edgeSeen s)) := by
  unfold acquiring
  simp only [h]
  rw [enterAcquire_of_ne (by simp [slewEdge, updateClock, edgeSeen, h])]
  rfl

/-- The state in which ACQUIRE takes an edge differs in the clock and in REF_STATE, which a change of the lock state
latches. -/
theorem acquiring_eq (s : State) : ∃ n u w, acquiring s = latchIf (s.clock.lock != .acquire) .refState
    (updateClock (fun c => { c with lock := .acquire, lockCount := n, unlockCount := u, slew := w }) (edgeSeen s)) := by
  cases h : s.clock.lock with
  | acquire =>
    refine ⟨s.clock.lockCount, s.clock.unlockCount, s.clock.slew, ?_⟩
    rw [acquiring_of_acquire h]
    simp [latchIf, updateClock, edgeSeen, h]
  | free => exact ⟨0, s.clock.unlockCount, s.clock.slew, acquiring_of_unlocked (.inl h)⟩
  | holdover => exact ⟨0, s.clock.unlockCount, s.clock.slew, acquiring_of_unlocked (.inr h)⟩
  | locked => exact ⟨_, _, _, acquiring_of_locked h⟩

theorem openClip_acquiring (s : State) : openClip (acquiring s) = openClip s := by
  obtain ⟨n, u, w, h⟩ := acquiring_eq s
  rw [h]
  cases s.clock.lock != .acquire <;> rfl

theorem offFrame_acquiring (s : State) : offFrame (acquiring s) = offFrame s := by
  obtain ⟨n, u, w, h⟩ := acquiring_eq s
  rw [h]
  cases s.clock.lock != .acquire <;> rfl

theorem acquiring_clock (s : State) : ∃ n u w, (acquiring s).clock
    = { (edgeSeen s).clock with lock := .acquire, lockCount := n, unlockCount := u, slew := w } := by
  obtain ⟨n, u, w, h⟩ := acquiring_eq s
  refine ⟨n, u, w, ?_⟩
  rw [h]
  cases s.clock.lock != .acquire <;> rfl

theorem isLatched_acquiring (h : s.clock.lock ≠ .acquire) (hm : isMuted .refState s = false) :
    isLatched .refState (acquiring s) = true := by
  obtain ⟨n, u, w, heq⟩ := acquiring_eq s
  rw [heq, bne_iff_ne.2 h]
  exact isLatched_latch hm

/-- The clock after an edge that jumps, up to the recorded-frame flag (R8, R2). -/
theorem jump_unrecorded (s : State) : ∃ u c, (phaseJump order (acquiring s)).clock.unrecorded
    = { (edgeSeen s).clock with
        lock := .acquire, lockCount := c, unlockCount := u, slew := 0, counter := 0, frameDue := false
        period := s.clock.rate.period, label := s.clock.nextLabel, delivered := some s.clock.nextLabel
        preset := none, recorded := false } := by
  obtain ⟨n, u, w, hclock⟩ := acquiring_clock s
  have hlock : (acquiring s).clock.lock = .acquire := by rw [hclock]
  refine ⟨u, n, ?_⟩
  rw [phaseJump_unrecorded order hlock, hclock]
  rfl

end

/-- Settles O30, by the class of the edge and, for a GOOD one, by the state in which it is taken. -/
theorem referenceEdgeByItsClass : Obligations.ReferenceEdgeByItsClass := by
  intro order s p
  refine ⟨fun hg => ?_, fun hg hprev => ?_, fun hg x hprev => ⟨fun hx => ?_, fun hx hp => ?_, fun hx hp => ?_⟩⟩
  · exact congrArg Host.Outcome.next (if_neg (by simp [hg]))
  · exact congrArg Host.Outcome.next (referenceEdgeTaken_first order hg hprev)
  · exact congrArg Host.Outcome.next (referenceEdgeTaken_glitch order hg (hprev ▸ classifyEdge_glitch hx))
  · exact congrArg Host.Outcome.next (referenceEdgeTaken_mismatch order hg (hprev ▸ classifyEdge_mismatch hx hp))
  have hgood : exec (.referenceEdge order) s = .next (goodEdge order s) :=
    congrArg Host.Outcome.next (referenceEdgeTaken_good order hg (hprev ▸ classifyEdge_good hx hp))
  extract_lets e slew before seen jumps
  have he : phaseError s.clock.counter s.clock.rate.period = e := rfl
  have hslew : slewOf e = slew := slewOf_eq e
  have hclip : openClip (acquiring s) = openClip s := openClip_acquiring s
  have hacquires := goodEdge_acquires (s := s) order
  rw [he] at hacquires
  rw [hgood]
  refine ⟨fun hlock hwithin => ?_, fun hlock hlarge hcount => ?_, fun hlock hlarge hcount hj => ?_,
    fun hlock hj hfar => ?_, fun hlock hnear hcount => ?_, fun hlock hnear hcount => ?_, fun hlock hj => ?_,
    fun hlock hj => ?_⟩
  · rw [goodEdge_locked_within order hlock hwithin, he, hslew]; rfl
  · rw [goodEdge_locked_counts order hlock hlarge hcount, he, hslew]; rfl
  · rw [hacquires fun _ => ⟨hlarge, hcount⟩, acquireEdge_far order (hclip ▸ hj) (by omega),
      acquiring_of_locked hlock, he, hslew]
    rfl
  · rw [hacquires (by simp [hlock]), acquireEdge_far order (hclip ▸ hj) hfar, acquiring_of_acquire hlock, hslew]
    rfl
  · rw [hacquires (by simp [hlock]), acquiring_of_acquire hlock,
      acquireEdge_near (s := edgeSeen s) order hnear hcount, hslew]
    rfl
  · rw [hacquires (by simp [hlock]), acquiring_of_acquire hlock,
      acquireEdge_locks (s := edgeSeen s) order hnear hcount hlock, hslew]
    rfl
  · have hne : s.clock.lock ≠ .locked := by rcases hlock with h | h <;> simp [h]
    rw [hacquires fun h => absurd h hne]
    by_cases hnear : e.natAbs ≤ 27
    · rw [acquiring_of_unlocked hlock, acquireEdge_near order hnear (Nat.zero_lt_succ 6), hslew, if_pos hnear]
      rfl
    · rw [acquireEdge_far order (hclip ▸ hj) (by omega), acquiring_of_unlocked hlock, hslew, if_neg hnear]
      rfl
  · have hlocked : s.clock.lock = .locked → 270 < e.natAbs ∧ 1 ≤ s.clock.unlockCount := by
      intro h
      exact ⟨by have := hj.1; omega, hlock.resolve_left (fun hne => hne h)⟩
    obtain ⟨u, n, hclock⟩ := jump_unrecorded order s
    rw [hacquires hlocked, acquireEdge_jump order (hclip ▸ hj)]
    refine ⟨_, rfl, congrArg Clock.lock hclock, rfl, congrArg Clock.prevEdge hclock, congrArg Clock.watchdog hclock,
      congrArg Clock.missed hclock, congrArg Clock.slew hclock, congrArg Clock.counter hclock,
      congrArg Clock.period hclock, congrArg Clock.frameDue hclock, ?_, fun hne hm => ?_, ?_⟩
    · exact (congrArg Clock.delivered hclock).trans (congrArg some (congrArg Clock.label hclock).symm)
    · exact (phaseJump_keeps order).isLatched_of _ (isLatched_acquiring hne hm)
    · have hoff := (phaseJump_offFrame order).trans (offFrame_acquiring s)
      simp only [offFrame, Prod.mk.injEq] at hoff
      exact hoff

end Sys2Proof.Machine
end

section
/-! PROOFS. HOLDOVER begins at the third missed edge and ends at the 250th frame (O31). -/
namespace Sys2Proof.Machine

section
variable {s : State}

theorem enterHoldover_of_ne (h : s.clock.lock ≠ .holdover) : enterHoldover s = latch .refState
    (updateClock (fun c => { c with lock := .holdover, slew := 0, watchdog := none, holdover := 0 }) s) := by
  rw [enterHoldover, setLock_of_ne h]; rfl

/-- The marks of a missed edge: it counts and takes the watchdog to the threshold that was passed (R6, log 1). -/
def edgeMissed (w : Nat) (s : State) : State := updateClock (fun c => { c with
  missed := s.clock.missed + 1, watchdog := some (max w (missThreshold s.clock.rate.period s.clock.missed)) }) s

theorem missedEdgeTaken_counts {w : Nat} (h : s.clock.watchdog = some w) (hcount : s.clock.missed < 2) :
    missedEdgeTaken s = edgeMissed w s := by
  rw [missedEdgeTaken, h]
  exact if_neg (by omega)

/-- The third missed edge enters HOLDOVER (R6, R10). -/
theorem missedEdgeTaken_third {w : Nat} (h : s.clock.watchdog = some w) (hcount : s.clock.missed = 2) :
    missedEdgeTaken s = enterHoldover (edgeMissed w s) := by
  rw [missedEdgeTaken, h]
  exact if_pos (by omega)

/-! ### The end of HOLDOVER at a frame start (R10) -/

/-- A receiver beside the clock changes no more of the clock than the recorded-frame flag. -/
theorem receiveNotice_unrecorded_of_ne (s : State) (label : Label) {r : Receiver} (h : r ≠ .clock) :
    (receiveNotice label r s).clock.unrecorded = s.clock.unrecorded := by
  cases r
  case record => exact recordFrame_unrecorded s label
  case clock => exact absurd rfl h
  all_goals simp [receiveNotice]

/-- The clock in FREE as the 250th frame in HOLDOVER leaves it (R7, R10). -/
def Clock.leftHoldover (c : Clock) : Prop :=
  c.lock = .free ∧ c.holdover = 0 ∧ c.slew = 0 ∧ c.watchdog = none ∧ c.lockCount = 0

theorem leftHoldover_of_unrecorded {c c' : Clock} (h : c.unrecorded = c'.unrecorded) (hc : c'.leftHoldover) :
    c.leftHoldover := by
  obtain ⟨hlock, hholdover, hslew, hwatchdog, hcount⟩ := hc
  exact ⟨(congrArg Clock.lock h).trans hlock, (congrArg Clock.holdover h).trans hholdover,
    (congrArg Clock.slew h).trans hslew, (congrArg Clock.watchdog h).trans hwatchdog,
    (congrArg Clock.lockCount h).trans hcount⟩

/-- The clock's own use of the 250th notice goes to FREE and latches REF_STATE. -/
theorem clockFrame_ends (hlock : s.clock.lock = .holdover) (hcount : s.clock.holdover = 249) :
    (clockFrame s).clock.leftHoldover
      ∧ (isMuted .refState s = false → isLatched .refState (clockFrame s) = true) := by
  have hne : (updateClock (fun c => { c with holdover := c.holdover + 1 }) s).clock.lock ≠ .free := by
    simp [updateClock, hlock]
  rw [clockFrame_of_holdover s hlock, if_pos (by omega), enterFree, setLock_of_ne hne]
  exact ⟨⟨rfl, rfl, rfl, rfl, rfl⟩, fun hm => isLatched_latch hm⟩

/-- The notice of the 250th frame ends HOLDOVER, wherever the clock stands in the order (log 5). -/
theorem deliverNotice_ends (label : Label) {order : List Receiver} (hmem : Receiver.clock ∈ order)
    (hlock : s.clock.lock = .holdover) (hcount : s.clock.holdover = 249) :
    (deliverNotice label order s).clock.leftHoldover
      ∧ (isMuted .refState s = false → isLatched .refState (deliverNotice label order s) = true) := by
  induction order generalizing s with
  | nil => cases hmem
  | cons r rest ih =>
    by_cases hr : r = .clock
    · subst hr
      obtain ⟨hleft, hlatched⟩ := clockFrame_ends hlock hcount
      have hne : (clockFrame s).clock.lock ≠ .holdover := by rw [hleft.1]; decide
      exact ⟨leftHoldover_of_unrecorded (deliverNotice_unrecorded (clockFrame s) label rest hne) hleft,
        fun hm => (keeps_deliverNotice (Keeps.refl (clockFrame s)) label rest).isLatched_of _ (hlatched hm)⟩
    · have hclock := receiveNotice_unrecorded_of_ne s label hr
      obtain ⟨hleft, hlatched⟩ := ih (s := receiveNotice label r s)
        ((List.mem_cons.1 hmem).resolve_left (Ne.symm hr))
        ((congrArg Clock.lock hclock).trans hlock) ((congrArg Clock.holdover hclock).trans hcount)
      exact ⟨hleft, fun hm => hlatched ((keeps_receiveNotice (Keeps.refl s) label r).isMuted_eq _ ▸ hm)⟩

theorem frameStarts_ends (order : List Receiver) (hlock : s.clock.lock = .holdover) (hcount : s.clock.holdover = 249) :
    (frameStarts order s).clock.leftHoldover
      ∧ (isMuted .refState s = false → isLatched .refState (frameStarts order s) = true) := by
  obtain ⟨hleft, hlatched⟩ := deliverNotice_ends (s := settleFrame s) (settleFrame s).clock.label
    (mem_receiverOrder .clock order) (by simpa using hlock) (by simpa using hcount)
  exact ⟨hleft, fun hm => hlatched ((keeps_settleFrame (Keeps.refl s)).isMuted_eq _ ▸ hm)⟩

end

/-- Settles O31: the missed edges by their count, and the clock's own use of the 250th notice. -/
theorem holdoverBeginsAndEnds : Obligations.HoldoverBeginsAndEnds := by
  refine ⟨fun w s hw => ⟨fun hcount => ?_, fun hcount hlock => ?_⟩, fun order s hlock hcount => ?_⟩
  · exact congrArg Host.Outcome.next (missedEdgeTaken_counts hw hcount)
  · have hne : (edgeMissed w s).clock.lock ≠ .holdover := by
      rcases hlock with h | h <;> simp [edgeMissed, updateClock, h]
    refine congrArg Host.Outcome.next ((missedEdgeTaken_third hw hcount).trans ((enterHoldover_of_ne hne).trans ?_))
    rw [edgeMissed, hcount]
    rfl
  · have hexec : exec (.holdoverExpiry order) s = .next (frameStarts order s) :=
      congrArg Host.Outcome.next (if_pos (by simp [holdoverDue, hlock, hcount]))
    obtain ⟨⟨hfree, hholdover, hslew, hwatchdog, hlocks⟩, hlatched⟩ := frameStarts_ends order hlock hcount
    have hcounter : (frameStarts order s).clock.counter = 0 := by
      have hsettled := frameStarts_settled s order
      rw [settleFrame_clock] at hsettled
      exact congrArg Clock.counter hsettled
    have hoff := frameStarts_offFrame s order
    simp only [offFrame, Prod.mk.injEq] at hoff
    exact ⟨_, hexec, hfree, hholdover, hslew, hwatchdog, hlocks, hcounter, hlatched, hoff⟩

end Sys2Proof.Machine
end

section
/-! PROOFS. How a started request is answered, and what the discarding of held extents leaves alone. -/
namespace Sys2Proof.Machine

/-! ### A request answered (R181) -/

section
variable {s : State} {n : Fin 32} {i : Instr}

theorem started_of_isStarted (h : isStarted n i s = true) : s.unit.slots[n].state = .started := by
  simp only [isStarted, Bool.and_eq_true, beq_iff_eq] at h
  exact h.1.1

theorem serve_of_isStarted (h : isStarted n i s = true) (run : State → State) : serve n i run s = run s := if_pos h

theorem inService_of_started (h : s.unit.slots[n].state = .started) : s.unit.slots[n].state.inService = true := by
  rw [h]; rfl

theorem inService_of_isStarted (h : isStarted n i s = true) : s.unit.slots[n].state.inService = true :=
  inService_of_started (started_of_isStarted h)

/-- The completion of a request in progress, with the result cut to the 240 bytes of a slot. -/
theorem complete_eq_answered (h : s.unit.slots[n].state.inService = true) (status : Status) (result : List Byte) :
    complete n status result s = answered n status (result.take 240) s := by
  rw [complete, completeWith, if_pos h]
  rfl

theorem keepRunning_eq_running (h : s.unit.slots[n].state.inService = true) : keepRunning n s = running n s :=
  if_pos h

theorem completeFree_eq_answered (h : s.unit.slots[n].state.inService = true) (status : Status) :
    completeFree n status s = { answered n status ((Config.freeResult s.freeCount).take 240) s with
      freeCount := s.freeCount + 1 } := by
  rw [completeFree, complete_eq_answered h]
  rfl

theorem complete_frame (n : Fin 32) (status : Status) (result : List Byte) (s : State) :
    complete n status result s = { s with unit := (complete n status result s).unit } :=
  completeWith_frame s none n status result

/-- The completion of one slot leaves the others as they are. -/
theorem complete_slots_other {m : Fin 32} (h : m ≠ n) (status : Status) (result : List Byte) (s : State) :
    (complete m status result s).unit.slots[n] = s.unit.slots[n] := by
  unfold complete completeWith
  split
  · exact modify_other _ m n _ h
  · rfl

/-- The request of a slot is in progress, or its completion has begun. -/
def underway (n : Fin 32) (s : State) : Prop :=
  s.unit.slots[n].state.inService = true ∨ s.unit.slots[n].state = .completing

theorem complete_completing (h : underway n s) (status : Status) (result : List Byte) :
    (complete n status result s).unit.slots[n].state = .completing := by
  unfold complete completeWith
  split
  next =>
    show (modify s.unit.slots n fun r => { r with state := .completing })[n.val].state = .completing
    rw [modify_same]
  next hn => exact h.resolve_left hn

theorem complete_underway (h : underway n s) (m : Fin 32) (status : Status) (result : List Byte) :
    underway n (complete m status result s) := by
  by_cases hm : m = n
  · subst hm; exact .inr (complete_completing h status result)
  · unfold underway
    rw [complete_slots_other hm]
    exact h

end

/-! ### Extents discarded (R118, R124) -/

section
variable (s : State)

/-- The state with other essence records and another slot unit. -/
def withEssences (es : List Essence) (u : SlotUnit) (s : State) : State :=
  { s with recorder := { s.recorder with essences := es }, unit := u }

theorem finishEssence_frame (slot : Fin 32) : finishEssence slot s
    = withEssences (finishEssence slot s).recorder.essences (finishEssence slot s).unit s := by
  unfold finishEssence
  split
  · split
    · rw [complete_frame]; rfl
    · rfl
  · rfl

/-- A settlement changes nothing, or enters the outcome in the essence record and then finishes the request (R124). -/
theorem settle_cases (o : ExtentOutcome) (slot : Fin 32) (place : Nat) : settle o slot place s = s
    ∨ ∃ es : List Essence, es.map Essence.slot = s.recorder.essences.map Essence.slot
      ∧ settle o slot place s = finishEssence slot (withEssences es s.unit s) := by
  unfold settle
  split
  · split
    · exact .inl rfl
    · refine .inr ⟨_, ?_, rfl⟩
      simp only [updateExtent, List.map_map]
      refine List.map_congr_left fun e _ => ?_
      by_cases he : e.slot = slot <;> simp [he]
  · exact .inl rfl

theorem settle_frame (o : ExtentOutcome) (slot : Fin 32) (place : Nat) : settle o slot place s
    = withEssences (settle o slot place s).recorder.essences (settle o slot place s).unit s := by
  obtain h | ⟨es, _, h⟩ := settle_cases s o slot place
  · rw [h]; rfl
  · rw [h, finishEssence_frame]; rfl

theorem discardAll_frame (l : List Extent) : discardAll l s
    = withEssences (discardAll l s).recorder.essences (discardAll l s).unit s := by
  induction l generalizing s with
  | nil => rfl
  | cons e rest ih =>
    have hcons : discardAll (e :: rest) s = discardAll rest (settle .discarded e.slot e.place s) := rfl
    rw [hcons, ih, settle_frame]
    rfl

variable {s} {n : Fin 32}

theorem finishEssence_underway (h : underway n s) (slot : Fin 32) : underway n (finishEssence slot s) := by
  unfold finishEssence
  split
  · split
    · exact complete_underway h _ _ _
    · exact h
  · exact h

theorem settle_underway (h : underway n s) (o : ExtentOutcome) (slot : Fin 32) (place : Nat) :
    underway n (settle o slot place s) := by
  obtain hs | ⟨es, _, hs⟩ := settle_cases s o slot place
  · rw [hs]; exact h
  · rw [hs]; exact finishEssence_underway (s := withEssences es s.unit s) h slot

theorem discardAll_underway (h : underway n s) (l : List Extent) : underway n (discardAll l s) := by
  induction l generalizing s with
  | nil => exact h
  | cons e rest ih => exact ih (settle_underway h _ _ _)

/-- No essence request is of slot `n`, whose record is `r`. -/
def noEssenceOf (n : Fin 32) (r : Slot) (s : State) : Prop :=
  n ∉ s.recorder.essences.map Essence.slot ∧ s.unit.slots[n] = r

theorem finishEssence_noEssenceOf {r : Slot} (h : noEssenceOf n r s) (slot : Fin 32) :
    noEssenceOf n r (finishEssence slot s) := by
  obtain ⟨hessences, hr⟩ := h
  unfold finishEssence
  split
  next e hfind =>
    have hslot : slot ≠ n := by
      rintro rfl
      obtain ⟨he, hmem⟩ := And.intro (List.find?_some hfind) (List.mem_of_find?_eq_some hfind)
      exact hessences (List.mem_map.2 ⟨e, hmem, beq_iff_eq.1 he⟩)
    split
    · refine ⟨fun hn => ?_, (complete_slots_other hslot _ _ s).trans hr⟩
      obtain ⟨e', he', rfl⟩ := List.mem_map.1 hn
      obtain ⟨hmem, _⟩ := List.mem_filter.1 he'
      rw [complete_frame] at hmem
      exact hessences (List.mem_map_of_mem hmem)
    · exact ⟨hessences, hr⟩
  next => exact ⟨hessences, hr⟩

theorem settle_noEssenceOf {r : Slot} (h : noEssenceOf n r s) (o : ExtentOutcome) (slot : Fin 32) (place : Nat) :
    noEssenceOf n r (settle o slot place s) := by
  obtain hs | ⟨es, hslots, hs⟩ := settle_cases s o slot place
  · rw [hs]; exact h
  · obtain ⟨hessences, hr⟩ := h
    rw [hs]
    exact finishEssence_noEssenceOf (s := withEssences es s.unit s) ⟨hslots ▸ hessences, hr⟩ slot

theorem discardAll_noEssenceOf {r : Slot} (h : noEssenceOf n r s) (l : List Extent) :
    noEssenceOf n r (discardAll l s) := by
  induction l generalizing s with
  | nil => exact h
  | cons e rest ih => exact ih (settle_noEssenceOf h _ _ _)

end

end Sys2Proof.Machine
end

section
/-! PROOFS. SET_GENLOCK, SET_TC and SET_TC_MODE (O27). -/
namespace Sys2Proof.Machine

/-! ### The record engine's idle state (R111, R114, R132) -/

section
variable {s : State}

theorem setRecState_cases (st : RecState) (s : State) : (s.recorder.state = st ∧ setRecState st s = s)
    ∨ ∃ p, s.recorder.state ≠ st
      ∧ setRecState st s = latch .recState { s with recorder := { s.recorder with state := st, pulse := p } } := by
  unfold setRecState
  split
  next h => exact .inl ⟨h, rfl⟩
  next h => exact .inr ⟨_, h, rfl⟩

theorem setRecState_keeps (st : RecState) (s : State) : (setRecState st s).recorder.state = st
    ∧ (setRecState st s).recorder.held = s.recorder.held
    ∧ (setRecState st s).recorder.essences = s.recorder.essences ∧ (setRecState st s).unit = s.unit := by
  obtain ⟨hst, h⟩ | ⟨p, _, h⟩ := setRecState_cases st s <;> rw [h]
  · exact ⟨hst, rfl, rfl, rfl⟩
  · exact ⟨rfl, rfl, rfl, rfl⟩

theorem isLatched_setRecState {st : RecState} (hne : s.recorder.state ≠ st) (hm : isMuted .recState s = false) :
    isLatched .recState (setRecState st s) = true := by
  obtain ⟨hst, _⟩ | ⟨p, _, h⟩ := setRecState_cases st s
  · exact absurd hst hne
  · rw [h]; exact isLatched_latch hm

/-- The held list emptied. -/
def dropHeld (s : State) : State := { s with recorder := { s.recorder with held := [] } }

theorem dropHeld_of_nil (h : s.recorder.held = []) : dropHeld s = s := by
  rw [dropHeld, ← h]

/-- With no extent held the change of state is all that the move to the idle state does. -/
theorem toIdle_of_nil (h : s.recorder.held = []) : toIdle s = setRecState (idleState s) s := by
  obtain ⟨_, hheld, _, _⟩ := setRecState_keeps (idleState s) s
  have hnil := hheld.trans h
  have hkeep : keepHeld [] (setRecState (idleState s) s) = dropHeld (setRecState (idleState s) s) := by
    unfold keepHeld
    split <;> rfl
  exact (congrArg (keepHeld · _) hnil).trans (hkeep.trans (dropHeld_of_nil hnil))

theorem recFormatNotice_frame (s : State) : recFormatNotice s
    = withEssences (recFormatNotice s).recorder.essences (recFormatNotice s).unit (dropHeld s) :=
  discardAll_frame (dropHeld s) s.recorder.held

theorem recFormatNotice_of_nil (h : s.recorder.held = []) : recFormatNotice s = s := by
  have hdrop : recFormatNotice s = discardAll s.recorder.held (dropHeld s) := rfl
  rw [hdrop, dropHeld_of_nil h, h]
  rfl

/-- A change of the TC mode discards what PREREC holds and derives the idle state again (R132). -/
theorem recTcModeNotice_of_idle
    (h : s.recorder.state = .prerec ∨ s.recorder.state = .standby ∧ s.recorder.held = []) :
    recTcModeNotice s = setRecState (idleState s) (recFormatNotice s) := by
  have hidle : recTcModeNotice s = toIdle (recFormatNotice s) := by
    obtain hst | ⟨hst, hheld⟩ := h
    · simp only [recTcModeNotice, hst]
    · rw [recFormatNotice_of_nil hheld]
      simp only [recTcModeNotice, hst]
  have hframe := recFormatNotice_frame s
  have hheld : (recFormatNotice s).recorder.held = [] := by rw [hframe]; rfl
  have hsame : idleState (recFormatNotice s) = idleState s := by rw [hframe]; rfl
  rw [hidle, toIdle_of_nil hheld, hsame]

theorem finishEssence_of_find {slot : Fin 32} {e : Essence}
    (h : (s.recorder.essences.find? fun e => e.slot == slot) = some e) (h0 : e.unsettled = 0) :
    finishEssence slot s = withEssences (s.recorder.essences.filter fun e => e.slot != slot)
      (complete slot (essenceStatus (e.extents.map EssenceExtent.outcome)) (essenceResult e) s).unit s := by
  unfold finishEssence
  rw [h]
  simp only [if_pos h0]
  rw [complete_frame]
  rfl

/-- The record of an essence request whose one extent, written nowhere, was discarded. -/
def discardedEssence (m : Fin 32) : Essence := ⟨m, 0, [⟨some .discarded, 0, none, .none, .none⟩]⟩

theorem discardedEssence_result (m : Fin 32) : essenceResult (discardedEssence m) = [3, 0, 0] :=
  (by decide : [EssenceExtent.mk (some .discarded) 0 none .none .none].flatMap EssenceExtent.resultBytes = [3, 0, 0])

/-- The essence request of one extent that is written nowhere ends DISCARDED with the extent (R118, R124). -/
theorem settle_only_extent {m : Fin 32} (hes : s.recorder.essences = [⟨m, 1, [⟨none, 0, none, .none, .none⟩]⟩])
    (hserving : s.unit.slots[m].state.inService = true) :
    settle .discarded m 0 s = withEssences [] (answered m .discarded [3, 0, 0] s).unit s := by
  have hextent : essenceExtent m 0 s = some ⟨none, 0, none, .none, .none⟩ := by simp [essenceExtent, hes]
  have hended : settle .discarded m 0 s = finishEssence m (withEssences [discardedEssence m] s.unit s) := by
    rw [settle, hextent]
    simp [updateExtent, hes, withEssences, EssenceExtent.outcomeOr, discardedEssence]
  have hfind : (([discardedEssence m] : List Essence).find? fun e => e.slot == m) = some (discardedEssence m) := by
    simp [discardedEssence]
  have hstatus : essenceStatus ((discardedEssence m).extents.map EssenceExtent.outcome) = .discarded :=
    (by decide : essenceStatus [some .discarded] = .discarded)
  have hnone : (([discardedEssence m] : List Essence).filter fun e => e.slot != m) = [] := by simp [discardedEssence]
  rw [hended, finishEssence_of_find (s := withEssences [discardedEssence m] s.unit s) hfind rfl, hstatus,
    discardedEssence_result, complete_eq_answered (s := withEssences [discardedEssence m] s.unit s) hserving]
  exact congrArg (withEssences · _ s) hnone

end

/-! ### SET_GENLOCK (R18) -/

section
variable {s : State} {n : Fin 32}

/-- The clock in FREE with genlock OFF. -/
def genlockOff (s : State) : State := { s with clock := { s.clock with
  genlock := false, prevEdge := none, lock := .free, slew := 0, lockCount := 0, unlockCount := 0
  holdover := 0, watchdog := none, missed := 0 } }

theorem enterFree_genlockOff (s : State) :
    enterFree (updateClock (fun c => { c with genlock := false, prevEdge := none }) s)
      = if s.clock.lock = .free then genlockOff s else latch .refState (genlockOff s) := by
  split
  next h => rw [enterFree, setLock, if_pos (by exact h)]; simp [genlockOff, updateClock, h]
  next h => rw [enterFree, setLock_of_ne (by exact h)]; rfl

theorem setGenlock_eq {enable : Byte} (h : isStarted n (.setGenlock n enable) s = true) :
    exec (.setGenlock n enable) s = .next (setGenlockTaken n enable s) :=
  congrArg Host.Outcome.next (serve_of_isStarted h _)

theorem setGenlock_requests (n : Fin 32) (enable : Byte) (s : State)
    (h : isStarted n (.setGenlock n enable) s = true) :
    (enable = 1 → exec (.setGenlock n enable) s
      = .next (answered n .ok [] { s with clock := { s.clock with genlock := true } }))
    ∧ (enable = 0 → s.clock.genlock = true → exec (.setGenlock n enable) s
      = .next (answered n .ok [] (if s.clock.lock = .free then genlockOff s else latch .refState (genlockOff s))))
    ∧ (enable = 0 → s.clock.genlock = false → exec (.setGenlock n enable) s = .next (answered n .ok [] s))
    ∧ (1 < enable.toNat → exec (.setGenlock n enable) s = .next (answered n .badValue [] s)) := by
  have hserving := inService_of_isStarted h
  rw [setGenlock_eq h, setGenlockTaken]
  refine ⟨?_, ?_, ?_, fun hbad => ?_⟩
  · rintro rfl
    rw [if_neg (by decide), if_pos rfl]
    exact congrArg Host.Outcome.next (complete_eq_answered (by exact hserving) .ok [])
  · rintro rfl hg
    rw [if_neg (by decide), if_neg (by decide), if_pos hg, enterFree_genlockOff]
    refine congrArg Host.Outcome.next (complete_eq_answered ?_ .ok [])
    split <;> exact hserving
  · rintro rfl hg
    rw [if_neg (by decide), if_neg (by decide), if_neg (by simp [hg])]
    exact congrArg Host.Outcome.next (complete_eq_answered hserving .ok [])
  · rw [if_pos hbad]
    exact congrArg Host.Outcome.next (complete_eq_answered hserving .badValue [])

/-! ### SET_TC (R16) -/

theorem setTc_eq {h m sec f : Byte} (hs : isStarted n (.setTc n h m sec f) s = true) :
    exec (.setTc n h m sec f) s = .next (setTcTaken n ⟨h.toNat, m.toNat, sec.toNat, f.toNat⟩ s) :=
  congrArg Host.Outcome.next (serve_of_isStarted hs _)

/-- A SET_TC that is refused is answered with a free result (log 16), BAD_VALUE before BUSY (log 45). -/
theorem setTcTaken_refused {l : Label} (hserving : s.unit.slots[n].state.inService = true)
    (h : presetInRange s.clock.rate l = false ∨ s.recorder.state.isBusy = true) : setTcTaken n l s
      = { answered n (if presetInRange s.clock.rate l then .busy else .badValue)
            ((Config.freeResult s.freeCount).take 240) s with freeCount := s.freeCount + 1 } := by
  unfold setTcTaken
  by_cases hrange : presetInRange s.clock.rate l = true
  · rw [if_pos hrange, if_pos hrange, if_pos (h.resolve_left (by simp [hrange])), completeFree_eq_answered hserving]
  · rw [if_neg hrange, if_neg hrange, completeFree_eq_answered hserving]

theorem setTcTaken_accepted {l : Label} (hserving : s.unit.slots[n].state.inService = true)
    (hrange : presetInRange s.clock.rate l = true) (hbusy : s.recorder.state.isBusy = false) : setTcTaken n l s
      = running n { s with clock := { s.clock with
          preset := some ⟨l.nextValid s.clock.rate s.clock.drop, n,
            decide (l.nextValid s.clock.rate s.clock.drop ≠ l)⟩ } } := by
  have hmoved : (l.nextValid s.clock.rate s.clock.drop != l)
      = decide (l.nextValid s.clock.rate s.clock.drop ≠ l) := by
    rw [Bool.eq_iff_iff]; simp
  rw [setTcTaken, if_pos hrange, if_neg (by simp [hbusy])]
  refine (keepRunning_eq_running (by exact hserving)).trans ?_
  simp only [updateClock, hmoved]

/-! ### SET_TC_MODE (R17, R132) -/

/-- The mode that a parameter of SET_TC_MODE names. -/
def namedMode (mode : Byte) : TcMode := if mode = 1 then .recRun else .freeRun

theorem byte_le_one {b : Byte} (h : b.toNat ≤ 1) : b = 0 ∨ b = 1 :=
  (Nat.le_one_iff_eq_zero_or_eq_one.1 h).imp (fun h => BitVec.eq_of_toNat_eq h) fun h => BitVec.eq_of_toNat_eq h

theorem ofCode_of_le {mode : Byte} (h : mode.toNat ≤ 1) : TcMode.ofCode mode.toNat = some (namedMode mode) := by
  obtain rfl | rfl := byte_le_one h <;> rfl

theorem ofCode_of_gt {mode : Byte} (h : 1 < mode.toNat) : TcMode.ofCode mode.toNat = none := by
  unfold TcMode.ofCode
  split
  next h0 => omega
  next h1 => omega
  next => rfl

/-- The clock takes the mode, and the recorded-frame flag is cleared (R17). -/
def withMode (m : TcMode) (s : State) : State := { s with clock := { s.clock with mode := m, recorded := false } }

theorem withMode_same {m : TcMode} (h : s.clock.mode = m) :
    withMode m s = { s with clock := { s.clock with recorded := false } } := by
  rw [withMode, ← h]

/-- The state in which an accepted SET_TC_MODE completes: a change of the mode is told to the record engine (R17). -/
def tcModeState (m : TcMode) (s : State) : State :=
  if s.clock.mode = m then withMode m s else recTcModeNotice (withMode m s)

theorem tcModeState_outside (m : TcMode) (s : State) : outside (tcModeState m s) = outside (withMode m s) := by
  unfold tcModeState
  split
  · rfl
  · exact outside_recTcModeNotice

theorem tcModeState_of_halted {m : TcMode} (h : s.recorder.state = .halted) : tcModeState m s = withMode m s := by
  have hstate : (withMode m s).recorder.state = .halted := h
  simp only [tcModeState, recTcModeNotice, hstate, ite_self]

theorem namedMode_eq_freeRun {mode : Byte} (h : mode.toNat ≤ 1) : namedMode mode = .freeRun ↔ mode = 0 := by
  obtain rfl | rfl := byte_le_one h <;> decide

theorem setTcMode_eq {mode : Byte} (h : isStarted n (.setTcMode n mode) s = true) :
    exec (.setTcMode n mode) s = .next (setTcModeTaken n mode s) :=
  congrArg Host.Outcome.next (serve_of_isStarted h _)

theorem setTcModeTaken_of_idle {mode : Byte} (hmode : mode.toNat ≤ 1) (hbusy : s.recorder.state.isBusy = false) :
    setTcModeTaken n mode s = complete n .ok [] (tcModeState (namedMode mode) s) := by
  unfold setTcModeTaken
  rw [ofCode_of_le hmode]
  simp only [hbusy, Bool.false_eq_true, if_false, bne_iff_ne, ne_eq, ite_not]
  rfl

theorem recTcModeNotice_underway (h : underway n s) : underway n (recTcModeNotice s) := by
  have keep (l : List Extent) (u : State) (hu : underway n u) : underway n (keepHeld l u) := by
    unfold keepHeld
    split <;> exact discardAll_underway (by exact hu) _
  have idle (u : State) (hu : underway n u) : underway n (toIdle u) := by
    refine keep _ _ ?_
    obtain ⟨_, _, _, hunit⟩ := setRecState_keeps (idleState u) u
    unfold underway
    rw [hunit]
    exact hu
  unfold recTcModeNotice
  split
  · exact idle _ (discardAll_underway (by exact h) _)
  · exact idle _ h
  all_goals exact h

theorem tcModeState_underway (m : TcMode) (h : underway n s) : underway n (tcModeState m s) := by
  have hn : underway n (withMode m s) := h
  unfold tcModeState
  split
  · exact hn
  · exact recTcModeNotice_underway hn

end

/-- What SET_TC_MODE does when it changes the mode with the record engine idle. -/
theorem setTcMode_changed {s : State} {n : Fin 32} (m : TcMode) (hstarted : s.unit.slots[n].state = .started)
    (hchanged : s.clock.mode ≠ m)
    (hidle : s.recorder.state = .prerec ∨ s.recorder.state = .standby ∧ s.recorder.held = [])
    {idle : RecState} (hto : idle = if 0 < s.recorder.limit ∧ m = .freeRun then .prerec else .standby) :
    let t := complete n .ok [] (tcModeState m s)
    t.recorder.state = idle ∧ t.recorder.held = []
    ∧ (s.recorder.state ≠ idle → isMuted .recState s = false → isLatched .recState t = true)
    ∧ (s.recorder.held = [] →
      t.recorder.essences = s.recorder.essences ∧ t.unit = (answered n .ok [] s).unit)
    ∧ ∀ (k : Fin 32) (e : Extent), s.recorder.held = [e] → e.slot = k → e.place = 0 →
      s.recorder.essences = [⟨k, 1, [⟨none, 0, none, .none, .none⟩]⟩] →
      s.unit.slots[k].state = .running →
      t.recorder.essences = [] ∧ t.unit = (answered n .ok [] (answered k .discarded [3, 0, 0] s)).unit := by
  have hstate : idleState (withMode m s) = idle := by
    rw [hto]; cases m <;> simp [idleState, withMode]
  have hnotice : tcModeState m s = setRecState idle (recFormatNotice (withMode m s)) := by
    rw [tcModeState, if_neg hchanged, recTcModeNotice_of_idle (s := withMode m s) hidle, hstate]
  have hframe := recFormatNotice_frame (withMode m s)
  obtain ⟨hst, hheld, hessences, hunit⟩ := setRecState_keeps idle (recFormatNotice (withMode m s))
  intro t
  have ht : t = complete n .ok [] (setRecState idle (recFormatNotice (withMode m s))) :=
    congrArg (complete n .ok []) hnotice
  have htrecorder : t.recorder = (setRecState idle (recFormatNotice (withMode m s))).recorder := by
    rw [ht, complete_frame]
  have htevents : t.events = (setRecState idle (recFormatNotice (withMode m s))).events := by
    rw [ht, complete_frame]
  have htunit {u : SlotUnit} (hu : (recFormatNotice (withMode m s)).unit = u) (hn : u.slots[n].state = .started) :
      t.unit = (answered n .ok [] { s with unit := u }).unit := by
    have hserving : (setRecState idle (recFormatNotice (withMode m s))).unit.slots[n].state.inService = true := by
      rw [hunit, hu, hn]; rfl
    rw [ht, complete_eq_answered hserving, answered, answered, hunit, hu]
    rfl
  refine ⟨by rw [htrecorder, hst], ?_, fun hne hm => ?_, fun hnil => ?_, ?_⟩
  · rw [htrecorder, hheld, hframe]; rfl
  · have hlatched := isLatched_setRecState (st := idle) (s := recFormatNotice (withMode m s))
      (by rw [hframe]; exact hne) (by rw [hframe]; exact hm)
    rw [isLatched, htevents]
    exact hlatched
  · have hsame : recFormatNotice (withMode m s) = withMode m s := recFormatNotice_of_nil hnil
    refine ⟨?_, htunit (by rw [hsame]; rfl) hstarted⟩
    rw [htrecorder, hessences, hsame]
    rfl
  · rintro _ ⟨k, _, address, length, frames⟩ hone rfl rfl hes hrunning
    have hk : k ≠ n := by
      rintro rfl
      rw [hstarted] at hrunning
      cases hrunning
    have hdiscard : recFormatNotice (withMode m s) = settle .discarded k 0 (dropHeld (withMode m s)) := by
      have hl : (withMode m s).recorder.held = _ := hone
      simp only [recFormatNotice, hl]
      rfl
    have hsettle := settle_only_extent (s := dropHeld (withMode m s)) (m := k) hes (by
      show s.unit.slots[k].state.inService = true
      rw [hrunning]; rfl)
    have hended := hdiscard.trans hsettle
    refine ⟨by rw [htrecorder, hessences, hended]; rfl, htunit (by rw [hended]; rfl) ?_⟩
    show (put s.unit.slots k _)[n.val].state = .started
    rw [put_other _ _ _ _ hk]
    exact hstarted

/-- SET_TC_MODE by the mode and the record state (R17). -/
theorem setTcMode_requests (n : Fin 32) (mode : Byte) (s : State) (h : isStarted n (.setTcMode n mode) s = true) :
    (mode.toNat > 1 → exec (.setTcMode n mode) s = .next (answered n .badValue [] s))
    ∧ (mode.toNat ≤ 1 → s.recorder.state.isBusy = true →
        exec (.setTcMode n mode) s = .next (answered n .busy [] s)) := by
  have hserving := inService_of_isStarted h
  rw [setTcMode_eq h, setTcModeTaken]
  refine ⟨fun hbad => ?_, fun hmode hbusy => ?_⟩
  · rw [ofCode_of_gt hbad]
    exact congrArg Host.Outcome.next (complete_eq_answered hserving .badValue [])
  · rw [ofCode_of_le hmode]
    simp only [hbusy, if_true]
    exact congrArg Host.Outcome.next (complete_eq_answered hserving .busy [])

/-- Settles O27: the three requests, each by the branch that serves it. -/
theorem clockRequests : Obligations.ClockRequests := by
  refine ⟨setGenlock_requests, fun n h m sec f s hs => ?_, fun n h m sec f s hs hh hm hsec hf hbusy => ?_,
    fun n mode s hs => ?_⟩
  · intro inRange hrefused
    have hrange : presetInRange s.clock.rate ⟨h.toNat, m.toNat, sec.toNat, f.toNat⟩ = true ↔ inRange :=
      presetInRange_iff _ _
    have hrefused' : presetInRange s.clock.rate ⟨h.toNat, m.toNat, sec.toNat, f.toNat⟩ = false
        ∨ s.recorder.state.isBusy = true := hrefused.imp_left fun hout => Bool.eq_false_iff.2 (mt hrange.1 hout)
    refine ⟨_, (Config.freeResult s.freeCount).take 240, (setTc_eq hs).trans (congrArg Host.Outcome.next
      (setTcTaken_refused (inService_of_isStarted hs) hrefused')), List.length_take_le _ _,
      fun hout => ?_, fun hin => ?_⟩
    · rw [if_neg (mt hrange.1 hout)]
    · rw [if_pos (hrange.2 hin)]
  · intro given taken
    have hrange : presetInRange s.clock.rate given = true := (presetInRange_iff _ _).2 ⟨hh, hm, hsec, hf⟩
    exact (setTc_eq hs).trans (congrArg Host.Outcome.next
      (setTcTaken_accepted (inService_of_isStarted hs) hrange hbusy))
  · obtain ⟨hbad, hrefused⟩ := setTcMode_requests n mode s hs
    refine ⟨hbad, hrefused, fun hmode hbusy => ?_⟩
    have hstarted := started_of_isStarted hs
    have hexec := (setTcMode_eq hs).trans (congrArg Host.Outcome.next (setTcModeTaken_of_idle (n := n) hmode hbusy))
    refine ⟨fun hsame => ?_, _, hexec, ?_⟩
    · have hsame' : s.clock.mode = namedMode mode := hsame
      have hstate : tcModeState (namedMode mode) s = { s with clock := { s.clock with recorded := false } } := by
        rw [tcModeState, if_pos hsame', withMode_same hsame']
      exact hexec.trans (congrArg Host.Outcome.next
        ((congrArg (complete n .ok []) hstate).trans
          (complete_eq_answered (by exact inService_of_started hstarted) _ _)))
    have hunderway := tcModeState_underway (namedMode mode) (.inl (inService_of_started hstarted))
    have houtside : outside (complete n .ok [] (tcModeState (namedMode mode) s))
        = outside (withMode (namedMode mode) s) :=
      (outside_complete ..).trans (tcModeState_outside _ s)
    refine ⟨congrArg Outside.clock houtside, complete_completing hunderway _ _, congrArg Outside.lines houtside,
      congrArg Outside.vf houtside, congrArg Outside.mem houtside,
      fun hchanged => ⟨fun hhalted => ?_, fun hidle => ?_⟩⟩
    · rw [tcModeState_of_halted hhalted, complete_eq_answered (by exact inService_of_started hstarted)]
      exact ⟨rfl, rfl⟩
    · refine setTcMode_changed (namedMode mode) hstarted hchanged hidle ?_
      simp only [namedMode_eq_freeRun hmode]

end Sys2Proof.Machine
end

section
/-! PROOFS. SET_VIDEO_FORMAT (O28). -/
namespace Sys2Proof.Machine

/-! ### The formats (R15) -/

theorem ofCode_code (r : FrameRate) : FrameRate.ofCode r.code = some r := by cases r <;> rfl

theorem code_of_ofCode {n : Nat} {r : FrameRate} (h : FrameRate.ofCode n = some r) : r.code = n := by
  unfold FrameRate.ofCode at h
  split at h <;> cases h <;> rfl

theorem ofCode_of_gt_seven {n : Nat} (h : 7 < n) : FrameRate.ofCode n = none := by
  unfold FrameRate.ofCode
  split
  case h_9 => rfl
  all_goals omega

/-- The rates with a drop mode are those of the codes 3 and 6, with 2 and 4 labels dropped (R11). -/
theorem dropCount_eq_of_code {r : FrameRate} {rate : Byte} (h : r.code = rate.toNat) :
    r.dropCount = if rate = 3 then some 2 else if rate = 6 then some 4 else none := by
  have hrate : rate = BitVec.ofNat 8 r.code := by rw [h, BitVec.ofNat_toNat, BitVec.setWidth_eq]
  subst hrate
  cases r <;> decide

theorem drop_eq_of_toNat {drop : Byte} {d : Bool} (h : drop.toNat = if d then 1 else 0) :
    drop = if d then 1 else 0 := by
  cases d <;> exact BitVec.eq_of_toNat_eq h

theorem formatOf_of_code {rate drop : Byte} {r : FrameRate} {d : Bool} (hr : r.code = rate.toNat)
    (hd : drop.toNat = if d then 1 else 0) (hdrop : d = true → rate = 3 ∨ rate = 6) :
    formatOf rate drop = some (r, d) := by
  have hcount := dropCount_eq_of_code hr
  have hrate : FrameRate.ofCode rate.toNat = some r := hr ▸ ofCode_code r
  obtain rfl := drop_eq_of_toNat hd
  cases d with
  | false => simp [formatOf, hrate]
  | true =>
    have hsome : r.dropCount ≠ none := by
      rw [hcount]
      obtain rfl | rfl := hdrop rfl <;> decide
    rw [formatOf, hrate]
    simp [hsome]

theorem formatOf_eq_none {rate drop : Byte}
    (h : 7 < rate.toNat ∨ 1 < drop.toNat ∨ drop = 1 ∧ rate ≠ 3 ∧ rate ≠ 6) : formatOf rate drop = none := by
  unfold formatOf
  split
  next r hr =>
    obtain hrate | hdrop | ⟨rfl, h3, h6⟩ := h
    · rw [ofCode_of_gt_seven hrate] at hr
      cases hr
    · rw [if_pos hdrop]
    · have hnone : r.dropCount = none := by rw [dropCount_eq_of_code (code_of_ofCode hr), if_neg h3, if_neg h6]
      simp [hnone]
  next => rfl

/-- The label of the new format: the frames clamped, and moved past a dropped label (R11, R15). -/
theorem reformatLabel_eq {rate : Byte} {r : FrameRate} {d : Bool} (hr : r.code = rate.toNat)
    (hdrop : d = true → rate = 3 ∨ rate = 6) (l : Label) :
    reformatLabel r d l = { l with frames :=
      let f := min l.frames (r.labelRate - 1)
      let dropped := if rate = 3 then 2 else 4
      if d = true ∧ l.seconds = 0 ∧ l.minutes % 10 ≠ 0 ∧ f < dropped then dropped else f } := by
  have hforce : d = true → dropsInForce r d = if rate = 3 then 2 else 4 := by
    intro hd
    rw [dropsInForce, if_pos hd, dropCount_eq_of_code hr]
    obtain rfl | rfl := hdrop hd <;> rfl
  dsimp only
  generalize (if rate = 3 then 2 else 4) = dropped at *
  cases d with
  | false => simp [reformatLabel, Label.nextValid, Label.isDropped, dropsInForce]
  | true =>
    simp only [reformatLabel, Label.nextValid, Label.isDropped_iff, hforce rfl, true_and]
    split
    next h => rw [if_pos ⟨h.1, h.2.2, h.2.1⟩]
    next h => rw [if_neg fun h' => h ⟨h'.1, h'.2.2, h'.2.1⟩]

/-! ### The new format in force (R15) -/

section
variable {s : State}

theorem setLock_frame (st : LockState) (s : State) :
    setLock st s = { s with clock := (setLock st s).clock, events := (setLock st s).events } := by
  unfold setLock
  split <;> rfl

theorem enterFree_frame (s : State) :
    enterFree s = { s with clock := (enterFree s).clock, events := (enterFree s).events } := by
  rw [enterFree, setLock_frame]; rfl

theorem enterAcquire_frame (s : State) :
    enterAcquire s = { s with clock := (enterAcquire s).clock, events := (enterAcquire s).events } := by
  rw [enterAcquire, setLock_frame]; rfl

/-- The clock in the new format, before the lock state is entered again (R15, steps 1 to 4). -/
def Clock.inFormat (r : FrameRate) (d : Bool) (c : Clock) : Clock := { c.withPeriod r.period with
  rate := r, drop := d, slew := 0, label := reformatLabel r d c.label, prevEdge := none }

/-- The state in the new format with the lock state entered again, before the record engine is told (R15). -/
def formatLocked (r : FrameRate) (d : Bool) (s : State) : State :=
  let s' := updateClock (Clock.inFormat r d) s
  if s'.clock.genlock then enterAcquire s' else enterFree s'

theorem changeFormat_eq (r : FrameRate) (d : Bool) (s : State) :
    changeFormat r d s = recFormatNotice (formatLocked r d s) := rfl

theorem inFormat_genlock (r : FrameRate) (d : Bool) (c : Clock) : (c.inFormat r d).genlock = c.genlock := by
  unfold Clock.inFormat Clock.withPeriod
  split <;> rfl

theorem formatLocked_frame (r : FrameRate) (d : Bool) (s : State) : formatLocked r d s
    = { s with clock := (formatLocked r d s).clock, events := (formatLocked r d s).events } := by
  unfold formatLocked
  dsimp only
  split
  · rw [enterAcquire_frame]; rfl
  · rw [enterFree_frame]; rfl

theorem changeFormat_frame (r : FrameRate) (d : Bool) (s : State) : changeFormat r d s
    = withEssences (changeFormat r d s).recorder.essences (changeFormat r d s).unit (dropHeld
        { s with clock := (formatLocked r d s).clock, events := (formatLocked r d s).events }) := by
  rw [changeFormat_eq, recFormatNotice_frame, formatLocked_frame]
  rfl

/-- The clock after the lock state is entered again: the fields of the new format stand. -/
theorem formatLocked_clock (r : FrameRate) (d : Bool) (s : State) :
    ∃ n u h w m, (formatLocked r d s).clock = { s.clock.inFormat r d with
      lock := if s.clock.genlock then .acquire else .free
      lockCount := n, unlockCount := u, holdover := h, watchdog := w, missed := m } := by
  unfold formatLocked
  by_cases hg : s.clock.genlock = true
  · have hg' : (updateClock (Clock.inFormat r d) s).clock.genlock = true := (inFormat_genlock r d _).trans hg
    simp only [if_pos hg', if_pos hg, enterAcquire_clock]
    exact ⟨_, _, _, _, _, rfl⟩
  · have hg' : ¬(updateClock (Clock.inFormat r d) s).clock.genlock = true :=
      fun h => hg ((inFormat_genlock r d _).symm.trans h)
    simp only [if_neg hg', if_neg hg, enterFree_clock]
    exact ⟨_, _, _, _, _, rfl⟩

theorem inFormat_fields (r : FrameRate) (d : Bool) (c : Clock) : (c.inFormat r d).period = r.period
    ∧ (c.inFormat r d).preset = c.preset ∧ (c.inFormat r d).mode = c.mode := by
  unfold Clock.inFormat Clock.withPeriod
  split <;> exact ⟨rfl, rfl, rfl⟩

theorem inFormat_running {c : Clock} (h : c.frameDue = false) (r : FrameRate) (d : Bool) :
    (c.inFormat r d).counter = c.counter ∧ (c.inFormat r d).frameDue = false := by
  simp [Clock.inFormat, Clock.withPeriod, h]

/-- A frame start whose tick has come stands only where the counter is at or past the new end. -/
theorem inFormat_due {c : Clock} (h : c.frameDue = true) (r : FrameRate) (d : Bool) :
    (c.inFormat r d).frameDue = decide (r.period ≤ c.counter + 1)
    ∧ (c.inFormat r d).counter = if r.period ≤ c.counter + 1 then c.counter else c.counter + 1 := by
  by_cases hend : c.counter + 1 < r.period
  · simp [Clock.inFormat, Clock.withPeriod, h, hend, Nat.not_le.2 hend]
  · simp [Clock.inFormat, Clock.withPeriod, h, hend, Nat.le_of_not_lt hend]

end

/-! ### The request (R15) -/

section
variable {s : State} {n : Fin 32}

theorem changeFormat_underway (r : FrameRate) (d : Bool) (h : underway n s) : underway n (changeFormat r d s) := by
  have hlocked : underway n (dropHeld (formatLocked r d s)) := by rw [formatLocked_frame]; exact h
  exact discardAll_underway hlocked _

/-- A slot of no essence request is as it was after the held extents are discarded. -/
theorem changeFormat_slots (r : FrameRate) (d : Bool) (h : ∀ e ∈ s.recorder.essences, e.slot ≠ n) :
    (changeFormat r d s).unit.slots[n] = s.unit.slots[n] := by
  have hnone : noEssenceOf n s.unit.slots[n] (dropHeld (formatLocked r d s)) := by
    rw [formatLocked_frame]
    exact ⟨by simpa [List.mem_map, dropHeld] using h, rfl⟩
  exact (discardAll_noEssenceOf hnone _).2

theorem changeFormat_workBase (r : FrameRate) (d : Bool) (s : State) :
    (changeFormat r d s).unit.workBase = s.unit.workBase := by
  have hout : outside (changeFormat r d s) = outside (formatLocked r d s) := outside_recFormatNotice
  rw [formatLocked_frame] at hout
  exact congrArg Outside.workBase hout

theorem setVideoFormat_eq {rate drop : Byte} (h : isStarted n (.setVideoFormat n rate drop) s = true) :
    exec (.setVideoFormat n rate drop) s = .next (setVideoFormatTaken n rate drop s) :=
  congrArg Host.Outcome.next (serve_of_isStarted h _)

theorem setVideoFormatTaken_of_idle {rate drop : Byte} {r : FrameRate} {d : Bool}
    (hf : formatOf rate drop = some (r, d)) (hidle : s.recorder.state.isIdle = true) :
    setVideoFormatTaken n rate drop s
      = complete n (okStatus (reformatLabel r d s.clock.label != s.clock.label))
          (labelBytes (changeFormat r d s).clock.label) (changeFormat r d s) := by
  unfold setVideoFormatTaken
  rw [hf]
  exact if_pos hidle

theorem setVideoFormatTaken_of_busy {rate drop : Byte} {r : FrameRate} {d : Bool}
    (hf : formatOf rate drop = some (r, d)) (hidle : s.recorder.state.isIdle = false) :
    setVideoFormatTaken n rate drop s = complete n .busy (labelBytes s.clock.label) s := by
  unfold setVideoFormatTaken
  rw [hf]
  exact if_neg (by simp [hidle])

theorem setVideoFormatTaken_of_none {rate drop : Byte} (hf : formatOf rate drop = none) :
    setVideoFormatTaken n rate drop s = complete n .badValue (labelBytes s.clock.label) s := by
  unfold setVideoFormatTaken
  rw [hf]

end

theorem okStatus_bne (l l' : Label) : okStatus (l != l') = if l = l' then .ok else .okAdjusted := by
  by_cases h : l = l' <;> simp [okStatus, h]

theorem isIdle_iff (st : RecState) : st.isIdle = true ↔ st = .standby ∨ st = .prerec := by
  cases st <;> decide

/-- Settles O28: the format and the frame in progress by the clock's fields, the rest by what the change of the
format and the discarded extents leave alone. -/
theorem setVideoFormatReplacesTheFormat : Obligations.SetVideoFormatReplacesTheFormat := by
  intro n rate drop s hs
  have hserving := inService_of_isStarted hs
  refine ⟨fun r d hr hd hdrop => ?_, fun hbad => ?_⟩
  · have hf := formatOf_of_code hr hd hdrop
    refine ⟨fun hidle => ?_, fun hstandby hprerec => ?_⟩
    · intro f dropped
      have hexec := (setVideoFormat_eq hs).trans (congrArg Host.Outcome.next
        (setVideoFormatTaken_of_idle (n := n) hf ((isIdle_iff _).2 hidle)))
      generalize htaken : complete n (okStatus (reformatLabel r d s.clock.label != s.clock.label))
        (labelBytes (changeFormat r d s).clock.label) (changeFormat r d s) = t at hexec
      have hframe : t = withEssences (changeFormat r d s).recorder.essences t.unit (dropHeld
          { s with clock := (formatLocked r d s).clock, events := (formatLocked r d s).events }) := by
        rw [← htaken, complete_frame, changeFormat_frame]; rfl
      obtain ⟨locks, unlocks, frames, watch, missed, hlocked⟩ := formatLocked_clock r d s
      have hclock : t.clock = _ := (congrArg State.clock hframe).trans hlocked
      have hlabel : t.clock.label = _ := (congrArg Clock.label hclock).trans (reformatLabel_eq hr hdrop s.clock.label)
      have hrecorder := congrArg State.recorder hframe
      obtain ⟨hperiod, hpreset, hmode⟩ := inFormat_fields r d s.clock
      refine ⟨t, hexec, congrArg Clock.rate hclock, congrArg Clock.drop hclock,
        (congrArg Clock.period hclock).trans hperiod, congrArg Clock.slew hclock, hlabel,
        congrArg Clock.prevEdge hclock, congrArg Clock.lock hclock, fun hdue => ?_, fun hdue => ?_,
        (congrArg Clock.preset hclock).trans hpreset, (congrArg Clock.mode hclock).trans hmode,
        congrArg Recorder.held hrecorder, (congrArg Recorder.state hrecorder).trans rfl, ?_, fun hnone => ?_,
        (congrArg State.lines hframe).trans rfl, (congrArg State.scan hframe).trans rfl,
        (congrArg State.power hframe).trans rfl, (congrArg State.zoom hframe).trans rfl,
        (congrArg State.vf hframe).trans rfl, (congrArg State.mem hframe).trans rfl⟩
      · obtain ⟨hcounter, hframeDue⟩ := inFormat_running hdue r d
        exact ⟨(congrArg Clock.counter hclock).trans hcounter, (congrArg Clock.frameDue hclock).trans hframeDue⟩
      · obtain ⟨hframeDue, hcounter⟩ := inFormat_due hdue r d
        exact ⟨(congrArg Clock.frameDue hclock).trans hframeDue, (congrArg Clock.counter hclock).trans hcounter⟩
      · rw [← htaken]
        exact complete_completing (changeFormat_underway r d (.inl hserving)) _ _
      · have htlabel : t.clock.label = reformatLabel r d s.clock.label := congrArg Clock.label hclock
        have hresult : (changeFormat r d s).clock.label = t.clock.label := by rw [← htaken, complete_clock]
        rw [hresult, ← htlabel, okStatus_bne] at htaken
        have hunit : _ = t.unit.completions := congrArg (fun u : State => u.unit.completions) htaken
        rw [← hunit, ← changeFormat_workBase r d s]
        exact mem_completions_completeWith (changeFormat r d s) (n := n) none _ _
          (by rw [changeFormat_slots r d hnone]; exact hserving)
    · rw [setVideoFormat_eq hs, setVideoFormatTaken_of_busy hf (by
        rw [Bool.eq_false_iff, ne_eq, isIdle_iff]
        exact not_or.2 ⟨hstandby, hprerec⟩), complete_eq_answered hserving]
      rfl
  · rw [setVideoFormat_eq hs, setVideoFormatTaken_of_none (formatOf_eq_none hbad), complete_eq_answered hserving]
    rfl

end Sys2Proof.Machine
end

section
/-! PROOFS. A step with no command waiting (O2). -/
namespace Sys2Proof.Machine

theorem step_of_pending_nil {s : State} (h : s.pending = []) : step s = idleStep s := by
  rw [step, h]

/-- With nothing due, neither a frame start nor a scan frame start is due (log 2). -/
theorem starts_not_due {s : State} (h : dueCommand s = none) : s.clock.frameDue = false ∧ s.scan.due = false := by
  have hall : ∀ o ∈ dueByTime s, o = none := fun o ho =>
    List.findSome?_eq_none_iff.1 h o (List.mem_append_right _ ho)
  have hframe := hall (dueIf s.clock.frameDue (.frameStart (Config.freeOrder s.freeCount))) (by simp [dueByTime])
  have hscan := hall (dueIf s.scan.due .scanFrameStart) (by simp [dueByTime])
  exact ⟨by simpa [dueIf] using hframe, by simpa [dueIf] using hscan⟩

/-! ### A tick of each block (R2, R4, R6, R25, R50, R51, R94) -/

theorem Clock.tick_eq {c : Clock} (h : c.frameDue = false) : c.tick = { c with
    counter := if c.counter + 1 < c.period then c.counter + 1 else c.counter
    frameDue := decide (c.period ≤ c.counter + 1)
    prevEdge := c.prevEdge.map (fun n => min (n + 1) (2 * c.rate.period))
    watchdog := c.watchdog.map (fun n => n + 1) } := by
  by_cases hend : c.period ≤ c.counter + 1
  · simp [Clock.tick, countTo, h, hend, Nat.not_lt.2 hend]
  · simp [Clock.tick, countTo, h, hend, Nat.lt_of_not_le hend]

theorem Scan.tick_eq {c : Scan} (h : c.due = false) : c.tick = { c with
    timer := if c.timer + 1 < 13500 then c.timer + 1 else c.timer, due := decide (13500 ≤ c.timer + 1) } := by
  unfold Scan.tick
  split
  next hend =>
    have hend : 13500 ≤ c.timer + 1 := hend
    simp [hend, Nat.not_lt.2 hend]
  next hend =>
    have hend : ¬13500 ≤ c.timer + 1 := hend
    simp [hend, Nat.lt_of_not_le hend, h]

theorem Focus.tick_eq (f : Focus) : f.tick = { f with phase := f.phase
    + (if f.state = .referencing then 4 else if f.state = .moving then f.rate else 0) } := by
  rcases f with ⟨state⟩
  cases state <;> rfl

/-- An operation has one tick less, or the next block of a BLOCK_WRITE is sent with its 250 ms (R94, R102). -/
theorem LinkOp.tick_cases (answered : Bool) (o : LinkOp) : o.tick answered = { o with left := o.left - 1 }
    ∨ o.kind = .blockWrite ∧ 0 < o.unsent
      ∧ o.tick answered = { o with left := 6750000, unsent := o.unsent - 1 } := by
  unfold LinkOp.tick
  split
  next h =>
    obtain ⟨hsending, _⟩ := Bool.and_eq_true_iff.1 h
    obtain ⟨hkind, hunsent⟩ := Bool.and_eq_true_iff.1 hsending
    exact .inr ⟨beq_iff_eq.1 hkind, of_decide_eq_true hunsent, rfl⟩
  next => exact .inl rfl

theorem Card.tick_spec (answered : Bool) (k : Card) : k.tick answered = { k with op := (k.tick answered).op }
    ∧ (k.op = none → (k.tick answered).op = none)
    ∧ ∀ o, k.op = some o → (k.tick answered).op = some { o with left := o.left - 1 }
      ∨ (o.kind = .blockWrite ∧ 0 < o.unsent
        ∧ (k.tick answered).op = some { o with left := 6750000, unsent := o.unsent - 1 }) := by
  refine ⟨rfl, fun h => by simp [Card.tick, h], fun o h => ?_⟩
  have hop : (k.tick answered).op = some (o.tick answered) := by simp [Card.tick, h]
  rw [hop]
  exact (o.tick_cases answered).imp (congrArg some)
    fun ⟨hkind, hunsent, ho⟩ => ⟨hkind, hunsent, congrArg some ho⟩

theorem card_tick (c : CardSlot) (s : State) : ∃ answered, card c (tick s) = (card c s).tick answered := by
  cases c
  · exact ⟨_, rfl⟩
  · exact ⟨_, rfl⟩


/-- Settles O2: the idle step by what is due, and the tick block by block. -/
theorem idleStepRunsWhatIsDue : Obligations.IdleStepRunsWhatIsDue := by
  intro s hpending
  have hstep := step_of_pending_nil hpending
  have htick : dueCommand s = none → step s = .next (tick s) := by
    intro h
    rw [hstep, idleStep, h]
  refine ⟨fun c hc => ?_, htick, fun hnone => ⟨tick s, htick hnone, ?_⟩⟩
  · rw [hstep, idleStep, hc]
  obtain ⟨hframe, hscan⟩ := starts_not_due hnone
  refine ⟨Clock.tick_eq hframe, Scan.tick_eq hscan, rfl, fun h => ?_, fun n dest v adjusted h => ?_,
    fun n v left adjusted h => ?_, fun i => ?_, Focus.tick_eq s.focus, rfl, fun c => ?_, rfl, rfl, rfl,
    fun left h => ?_, fun h => ?_, fun left h => ?_, fun h => ?_, rfl⟩
  · simp [tick, Zoom.tick, h]
  · simp [tick, Zoom.tick, HostZoom.tick, h]
  · simp [tick, Zoom.tick, HostZoom.tick, h]
  · exact mapBank_get Line.tick s.lines i i.isLt
  · obtain ⟨answered, hcard⟩ := card_tick c s
    rw [hcard]
    exact (card c s).tick_spec answered
  · simp [tick, Viewfinder.tick, ZoomHold.tick, h]
  · cases hhold : s.vf.zoomHold with
    | timing left => exact absurd hhold (h left)
    | none | held => simp [tick, Viewfinder.tick, ZoomHold.tick, hhold]
  · simp [tick, Viewfinder.tick, BuildState.tick, h]
  · cases hbuild : s.vf.build with
    | building left => exact absurd hbuild (h left)
    | idle | waiting => simp [tick, Viewfinder.tick, BuildState.tick, hbuild]

end Sys2Proof.Machine
end

section
/-! PROOFS. What the operations on a card slot do to its card, and what they leave alone (Chapter 6). -/
namespace Sys2Proof.Machine

/-! ### The two card slots (R94) -/

section
variable (c : CardSlot) (k l : Card) (s : State)

@[simp] theorem card_setCard_same : card c (setCard c k s) = k := by cases c <;> rfl

@[simp] theorem card_setCard_other : card (otherCard c) (setCard c k s) = card (otherCard c) s := by cases c <;> rfl

@[simp] theorem setCard_card : setCard c (card c s) s = s := by cases c <;> rfl

@[simp] theorem setCard_setCard : setCard c k (setCard c l s) = setCard c k s := by cases c <;> rfl

@[simp] theorem setCard_recorder : (setCard c k s).recorder = s.recorder := by cases c <;> rfl

@[simp] theorem setCard_unit : (setCard c k s).unit = s.unit := by cases c <;> rfl

@[simp] theorem setCard_events : (setCard c k s).events = s.events := by cases c <;> rfl

@[simp] theorem setCard_clock : (setCard c k s).clock = s.clock := by cases c <;> rfl

@[simp] theorem setCard_lines : (setCard c k s).lines = s.lines := by cases c <;> rfl

@[simp] theorem otherCard_otherCard : otherCard (otherCard c) = c := by cases c <;> rfl

/-- Two states with the same cards agree on each slot. -/
theorem card_congr {s t : State} (c : CardSlot) (ha : t.cardA = s.cardA) (hb : t.cardB = s.cardB) :
    card c t = card c s := by cases c <;> assumption

theorem isProtected_congr {s t : State} (c : CardSlot) (h : t.lines = s.lines) :
    isProtected c t = isProtected c s := by cases c <;> simp only [isProtected, h]

theorem lines_of_outside {s t : State} (h : outside t = outside s) : t.lines = s.lines := congrArg Outside.lines h

end

/-! ### A card in another card state (R95, R99, R100) -/

/-- The state with one card in another card state, and with other event latches. -/
def withCardState (c : CardSlot) (st : CardState) (e : Events) (s : State) : State :=
  { setCard c { card c s with state := st } s with events := e }

section
variable (c : CardSlot) (st : CardState) (e : Events) (s : State)

@[simp] theorem card_withCardState : card c (withCardState c st e s) = { card c s with state := st } := by
  cases c <;> rfl

@[simp] theorem card_withCardState_other : card (otherCard c) (withCardState c st e s) = card (otherCard c) s := by
  cases c <;> rfl

@[simp] theorem withCardState_recorder : (withCardState c st e s).recorder = s.recorder := setCard_recorder _ _ s

@[simp] theorem withCardState_unit : (withCardState c st e s).unit = s.unit := setCard_unit _ _ s

theorem withCardState_same : withCardState c (card c s).state s.events s = s := by cases c <;> rfl

theorem withCardState_withCardState (st' : CardState) (e' : Events) :
    withCardState c st e (withCardState c st' e' s) = withCardState c st e s := by cases c <;> rfl

/-- A change of a card state moves nothing but that state and the event latches. -/
theorem setCardState_eq : setCardState c st s = withCardState c st (setCardState c st s).events s := by
  unfold setCardState
  split
  next h => rw [← h, withCardState_same]
  next =>
    unfold latchIf
    split <;> rfl

@[simp] theorem setCardState_recorder : (setCardState c st s).recorder = s.recorder := by
  rw [setCardState_eq, withCardState_recorder]

@[simp] theorem setCardState_unit : (setCardState c st s).unit = s.unit := by rw [setCardState_eq, withCardState_unit]

theorem card_setCardState : card c (setCardState c st s) = { card c s with state := st } := by
  rw [setCardState_eq, card_withCardState]

theorem card_setCardState_other : card (otherCard c) (setCardState c st s) = card (otherCard c) s := by
  rw [setCardState_eq, card_withCardState_other]

/-- The state in which the protect check point leaves a card (R99). -/
def checkedState (c : CardSlot) (s : State) : CardState :=
  if ((card c s).state = .ready ∨ (card c s).state = .full) ∧ isProtected c s = true ∧ (card c s).busy = false then
    .protect
  else if (card c s).state = .protect ∧ isProtected c s = false then (card c s).openState
  else (card c s).state

theorem setCardState_of_eq (h : (card c s).state = st) : setCardState c st s = s := if_pos h

theorem checkPoint_cases : checkPoint c s = setCardState c (checkedState c s) s := by
  cases hst : (card c s).state with
  | ready | full =>
    by_cases h : isProtected c s = true ∧ (card c s).busy = false
    · simp [checkPoint, checkedState, hst, h.1, h.2]
    · simp [checkPoint, checkedState, hst, h, setCardState_of_eq c _ s hst]
  | protect =>
    cases hp : isProtected c s
    · simp [checkPoint, checkedState, hst, hp]
    · simp [checkPoint, checkedState, hst, hp, setCardState_of_eq c _ s hst]
  | empty | mounting | active | formatting | fault =>
    simp [checkPoint, checkedState, hst, setCardState_of_eq c _ s hst]

theorem checkPoint_eq : checkPoint c s = withCardState c (checkedState c s) (checkPoint c s).events s := by
  rw [checkPoint_cases, ← setCardState_eq]

@[simp] theorem checkPoint_recorder : (checkPoint c s).recorder = s.recorder := by
  rw [checkPoint_eq, withCardState_recorder]

@[simp] theorem checkPoint_unit : (checkPoint c s).unit = s.unit := by rw [checkPoint_eq, withCardState_unit]

theorem card_checkPoint : card c (checkPoint c s) = { card c s with state := checkedState c s } := by
  rw [checkPoint_eq, card_withCardState]

theorem card_checkPoint_other : card (otherCard c) (checkPoint c s) = card (otherCard c) s := by
  rw [checkPoint_eq, card_withCardState_other]

theorem Card.busy_eq_false_iff (k : Card) : k.busy = false ↔ k.queue = [] ∧ k.op = none ∧ k.index = none := by
  simp [Card.busy, and_assoc]

theorem Card.openState_eq (k : Card) : k.openState = if k.capacity - k.committed - k.reserved < 64 then .full else .ready :=
  rfl

theorem Card.openState_cases (k : Card) : k.openState = .ready ∨ k.openState = .full := by
  rw [Card.openState_eq]
  split
  · exact .inr rfl
  · exact .inl rfl

/-- The state in which a card that is deselected is left: an ACTIVE one is READY or FULL, or PROTECTED where its
protect level is asserted and it is idle (R99, R100). -/
def deselectedState (c : CardSlot) (s : State) : CardState :=
  if (card c s).state = .active then
    if isProtected c s = true ∧ (card c s).busy = false then .protect else (card c s).openState
  else (card c s).state

theorem checkedState_open {st : CardState} (h : st = .ready ∨ st = .full) : checkedState c (setCardState c st s)
    = if isProtected c s = true ∧ (card c s).busy = false then .protect else st := by
  have hp : isProtected c (setCardState c st s) = isProtected c s :=
    isProtected_congr c (lines_of_outside (by simp))
  have hcard := card_setCardState c st s
  have hbusy : (card c (setCardState c st s)).busy = (card c s).busy := by rw [hcard]; rfl
  have hst : st ≠ .protect := by rintro rfl; simp at h
  rw [checkedState, hp, hbusy, hcard]
  simp [h, hst]

theorem deselect_eq : deselect c s = withCardState c (deselectedState c s) (deselect c s).events s := by
  unfold deselect deselectedState
  split
  · rw [checkPoint_eq, checkedState_open c s (card c s).openState_cases, setCardState_eq c _ s,
      withCardState_withCardState]
    rfl
  · exact (withCardState_same c s).symm

theorem select_eq : select c s
    = withCardState c (if (card c s).state = .ready then .active else (card c s).state) (select c s).events s := by
  unfold select
  split
  · rw [← setCardState_eq]
  · exact (withCardState_same c s).symm

@[simp] theorem select_recorder : (select c s).recorder = s.recorder := by rw [select_eq, withCardState_recorder]

@[simp] theorem select_unit : (select c s).unit = s.unit := by rw [select_eq, withCardState_unit]

theorem card_select (h : (card c s).state = .ready) : card c (select c s) = { card c s with state := .active } := by
  rw [select_eq, card_withCardState, if_pos h]

theorem card_select_other : card (otherCard c) (select c s) = card (otherCard c) s := by
  rw [select_eq, card_withCardState_other]

variable {c st s}

/-- A change to another card state latches the slot's class (R95). -/
theorem isLatched_setCardState (h : (card c s).state ≠ st) (hm : isMuted (cardClass c) s = false) :
    isLatched (cardClass c) (setCardState c st s) = true := by
  unfold setCardState
  rw [if_neg h]
  refine (keeps_latchIf (Keeps.refl _) _ _).isLatched_of _ (isLatched_latch ?_)
  rw [← hm]
  exact congrArg (fun e : Events => e.levels[(cardClass c).bit] == 0) (setCard_events c _ s)

/-- A card that goes to FAULT latches MEDIA_FAULT (R95). -/
theorem isLatched_mediaFault (h : (card c s).state ≠ .fault) (hm : isMuted .mediaFault s = false) :
    isLatched .mediaFault (setCardState c .fault s) = true := by
  unfold setCardState
  rw [if_neg h]
  refine isLatched_latch ?_
  rw [(keeps_latch (keeps_setCard (Keeps.refl s) c _) _).isMuted_eq, hm]

end

end Sys2Proof.Machine
end

section
/-! PROOFS. FORMAT_CARD and the end of a format (O49). -/
namespace Sys2Proof.Machine

/-! ### Ends of link operations (R94, R107) -/

section
variable {s : State} {c : CardSlot} {left unsent : Nat} {h : Option CardHeader} {kind : LinkOpKind}

theorem linkEnd_observed (hop : (card c s).op = some ⟨kind, left, unsent, h, true⟩) (act : State → State) :
    linkEnd c kind act s = act (endOp c s) := by
  simp [linkEnd, linkOp, hop]

/-- A time limit that passes ends each operation as its ERROR does (R94). -/
theorem linkTimedOut_eq (hop : (card c s).op = some ⟨kind, left, unsent, h, true⟩) :
    linkTimedOut c s = linkEnd c kind (match kind with
      | .headerRead => headerAnswered c .error
      | .blockWrite => blockAnswered c .error
      | .indexWrite => indexWriteAnswered c .error
      | .format => formatAnswered c .error) s := by
  cases kind <;> simp [linkTimedOut, linkOp, hop]

end

/-! ### FORMAT_CARD by its cases (R106) -/

section
variable {s : State} {c : CardSlot} {n : Fin 32}

theorem formatResult_take (k : Card) : (formatResult k).take 240 = formatResult k :=
  List.take_of_length_le (by simp [formatResult, field32, littleEndian])

theorem openClipOn_eq_any (c : CardSlot) (s : State) :
    openClipOn c s = (openClip s).any fun x => x.spans.any fun span => span.card == c := by
  unfold openClipOn
  split
  next k hk => rw [hk]; rfl
  next hk => rw [hk]; rfl

theorem formatRefusal_noMedia (h : (card c s).state = .empty ∨ (card c s).state = .protect
    ∨ ((card c s).state = .fault ∧ isProtected c s = true)) : formatRefusal c s = some .noMedia := by
  obtain h | h | ⟨h, hp⟩ := h
  · simp [formatRefusal, h]
  · simp [formatRefusal, h]
  · simp [formatRefusal, h, hp]

theorem formatRefusal_unready (h : (card c s).state = .active ∨ (card c s).state = .mounting
    ∨ (card c s).state = .formatting) : formatRefusal c s = some .busy := by
  obtain h | h | h := h <;> simp [formatRefusal, h]

/-- A card that can be formatted is refused where it is busy or holds a span of the open clip. -/
theorem formatRefusal_opened (h : (card c s).state = .ready ∨ (card c s).state = .full
    ∨ ((card c s).state = .fault ∧ isProtected c s = false)) :
    formatRefusal c s = if ((card c s).busy || openClipOn c s) = true then some .busy else none := by
  obtain h | h | ⟨h, hp⟩ := h
  · simp [formatRefusal, h]
  · simp [formatRefusal, h]
  · simp [formatRefusal, h, hp]

theorem formatCard_eq {code : Byte} (hs : isStarted n (.formatCard n code) s = true) :
    exec (.formatCard n code) s = .next (formatCardTaken n code s) :=
  congrArg Host.Outcome.next (serve_of_isStarted hs _)

theorem formatCardTaken_of_code {code : Byte} (hcode : code = 0 ∧ c = .a ∨ code = 1 ∧ c = .b) :
    formatCardTaken n code s = match formatRefusal c s with
      | some status => complete n status (formatResult (card c s)) s
      | none => formatStarts n c s := by
  obtain ⟨rfl, rfl⟩ | ⟨rfl, rfl⟩ := hcode <;> rfl

theorem formatCardTaken_refused {code : Byte} (hcode : code = 0 ∧ c = .a ∨ code = 1 ∧ c = .b)
    (hserving : s.unit.slots[n].state.inService = true) {status : Status} (h : formatRefusal c s = some status) :
    formatCardTaken n code s = answered n status (formatResult (card c s)) s := by
  rw [formatCardTaken_of_code hcode, h]
  exact (complete_eq_answered hserving _ _).trans (by rw [formatResult_take])

theorem card_running (n : Fin 32) (c : CardSlot) (s : State) : card c (running n s) = card c s := card_congr c rfl rfl

theorem formatStarts_eq (hserving : s.unit.slots[n].state.inService = true) : formatStarts n c s
    = { setCard c { card c s with
          state := .formatting, op := some ⟨.format, 270000000, 0, none, true⟩, format := some n } (running n s) with
        events := (setCardState c .formatting (running n s)).events } := by
  unfold formatStarts
  rw [keepRunning_eq_running hserving]
  dsimp only
  rw [setCardState_eq, card_withCardState, card_running]
  cases c <;> rfl

end

/-! ### The end of a format (R106) -/

section
variable {s : State} {c : CardSlot} {n : Fin 32} {left : Nat}

/-- The state with the slot's FORMAT_CARD completed and forgotten. -/
theorem endFormat_eq (hformat : (card c s).format = some n) (hserving : s.unit.slots[n].state.inService = true)
    (status : Status) : endFormat c status s
      = answered n status (formatResult (card c s)) (setCard c { card c s with format := none } s) := by
  unfold endFormat
  rw [hformat]
  dsimp only
  rw [card_setCard_same, complete_eq_answered (by rw [setCard_unit]; exact hserving), formatResult_take]
  rfl

/-- The card that a FORMAT leaves: its capacity kept, its counts cleared, and its state derived. -/
def formattedCard (c : CardSlot) (s : State) : Card := { card c s with
  state := if isProtected c s = true then .protect else if (card c s).capacity < 64 then .full else .ready
  committed := 0, reserved := 0, indexCount := 0, lastClip := 0, op := none, format := none }

/-- The state with the counts of a card cleared after its FORMAT. -/
def countsCleared (c : CardSlot) (s : State) : State :=
  setCard c { card c s with committed := 0, reserved := 0, indexCount := 0, lastClip := 0, op := none } s

theorem derivedCardState_countsCleared (c : CardSlot) (s : State) :
    derivedCardState c (countsCleared c s) = (formattedCard c s).state := by
  have hp : isProtected c (countsCleared c s) = isProtected c s := isProtected_congr c (setCard_lines ..)
  rw [derivedCardState, hp, countsCleared, card_setCard_same]
  rfl

theorem formatAnswered_done (hformat : (card c s).format = some n)
    (hserving : s.unit.slots[n].state.inService = true) : formatAnswered c .done (endOp c s)
      = answered n .ok (formatResult (formattedCard c s)) (cardErased c { setCard c (formattedCard c s) s with
          events := (setCardState c (formattedCard c s).state (countsCleared c s)).events }) := by
  have hcounts : setCard c { card c (endOp c s) with committed := 0, reserved := 0, indexCount := 0, lastClip := 0 }
      (endOp c s) = countsCleared c s := by cases c <;> rfl
  have hderived : formatAnswered c .done (endOp c s) = endFormat c .ok (cardErased c
      (setCardState c (derivedCardState c (countsCleared c s)) (countsCleared c s))) := by
    rw [← hcounts]; rfl
  rw [hderived, derivedCardState_countsCleared, setCardState_eq,
    endFormat_eq (n := n) (by cases c <;> exact hformat) (by cases c <;> exact hserving)]
  cases c <;> rfl

theorem formatAnswered_error (hformat : (card c s).format = some n)
    (hserving : s.unit.slots[n].state.inService = true) :
    formatAnswered c .error (endOp c s) = answered n .mediaFault (formatResult { card c s with state := .fault })
      { setCard c { card c s with state := .fault, op := none, format := none } s with
        events := (setCardState c .fault (endOp c s)).events } := by
  have hfault : formatAnswered c .error (endOp c s) = endFormat c .mediaFault (setCardState c .fault (endOp c s)) := rfl
  rw [hfault, setCardState_eq, endFormat_eq (n := n) (by cases c <;> exact hformat) (by cases c <;> exact hserving)]
  cases c <;> rfl

theorem formatEnd_eq (hop : (card c s).op = some ⟨.format, left, 0, none, true⟩) (answer : CardAnswer) :
    exec (.formatEnd c answer) s = .next (formatAnswered c answer (endOp c s)) :=
  congrArg Host.Outcome.next (linkEnd_observed hop _)

end

/-- Settles O49: the request by its refusals, and the end of a format by the card that it leaves. -/
theorem formatErasesTheCard : Obligations.FormatErasesTheCard := by
  refine ⟨fun n code s hs hcode => ?_, fun n code c s hs hcode => ?_, fun n c left s hst hop hformat hrunning => ?_⟩
  · have hserving := inService_of_isStarted hs
    refine ⟨_, (Config.freeResult s.freeCount).take 240, formatCard_eq hs, List.length_take_le _ _, ?_⟩
    rw [formatCardTaken, if_pos hcode, completeFree_eq_answered hserving]
  · have hserving := inService_of_isStarted hs
    have hrefused {status : Status} (h : formatRefusal c s = some status) :
        exec (.formatCard n code) s = .next (answered n status (formatResult (card c s)) s) :=
      (formatCard_eq hs).trans (congrArg Host.Outcome.next (formatCardTaken_refused hcode hserving h))
    intro now k busy spanned opened
    have hopened (h : opened) : formatRefusal c s = if (busy || spanned) = true then some .busy else none := by
      rw [formatRefusal_opened h, openClipOn_eq_any]
      rfl
    refine ⟨fun h => hrefused (formatRefusal_noMedia h), fun h => hrefused (formatRefusal_unready h),
      fun h hbusy => hrefused ((hopened h).trans (if_pos hbusy)), fun h hbusy hspanned => ?_⟩
    have hnone : formatRefusal c s = none := (hopened h).trans (if_neg (by simp [hbusy, hspanned]))
    have hmoved : (card c s).state ≠ .formatting := by
      obtain h | h | ⟨h, _⟩ := h <;> exact h ▸ nofun
    refine ⟨_, formatCard_eq hs, ?_⟩
    rw [formatCardTaken_of_code hcode, hnone]
    dsimp only
    rw [formatStarts_eq hserving]
    refine ⟨by cases c <;> rfl, fun hm => ?_, by cases c <;> rfl⟩
    exact isLatched_setCardState (by rw [card_running]; exact hmoved) hm
  · have hserving : s.unit.slots[n].state.inService = true := by rw [hrunning]; rfl
    refine ⟨⟨_, formatEnd_eq hop .done, ?_⟩, ⟨_, formatEnd_eq hop .error, ?_⟩⟩
    · rw [formatAnswered_done hformat hserving]
      refine ⟨⟨by cases c <;> rfl, by cases c <;> rfl⟩, by cases c <;> rfl, fun hm => ?_, by cases c <;> rfl,
        by cases c <;> rfl, by cases c <;> rfl, by cases c <;> rfl, by cases c <;> rfl⟩
      refine isLatched_setCardState (s := countsCleared c s) ?_ (by cases c <;> exact hm)
      rw [countsCleared, card_setCard_same]
      show (card c s).state ≠ _
      rw [hst]
      simp only [formattedCard]
      split <;> (try split) <;> nofun
    · rw [formatAnswered_error hformat hserving]
      refine ⟨by cases c <;> rfl, by cases c <;> rfl, fun hm => ?_, by cases c <;> rfl, by cases c <;> rfl⟩
      exact isLatched_mediaFault (s := endOp c s) (by rw [endOp, card_setCard_same]; exact hst ▸ nofun)
        (by cases c <;> exact hm)

end Sys2Proof.Machine
end

section
/-! PROOFS. The clip table, the target cards, and the settlement of the extents that a card returns. -/
namespace Sys2Proof.Machine

/-! ### The open clip (R109) -/

section
variable {s t : State} {k : Clip} {f g : Clip → Clip}

theorem openClip_congr (h : t.recorder.clips = s.recorder.clips) : openClip t = openClip s :=
  congrArg (List.find? fun c : Clip => c.state.inProgress) h

theorem inProgress_of_openClip (h : openClip s = some k) : k.state.inProgress = true :=
  List.find?_some (p := fun k : Clip => k.state.inProgress) h

theorem mem_of_openClip (h : openClip s = some k) : k ∈ s.recorder.clips := List.mem_of_find?_eq_some h

/-- A change of the open clip that leaves it OPEN or CLOSING. -/
def keepsOpen (f : Clip → Clip) : Prop := ∀ k, (f k).state = k.state

theorem openClip_updateOpen (hf : keepsOpen f) : openClip (updateOpen f s) = (openClip s).map f := by
  have hsame (k : Clip) : (if k.state.inProgress = true then f k else k).state = k.state := by
    split
    · exact hf k
    · rfl
  simp only [openClip, updateOpen, List.find?_map, Function.comp_def, hsame]
  cases h : s.recorder.clips.find? fun c => c.state.inProgress with
  | none => rfl
  | some k => simp [List.find?_some h]

theorem openClip_updateOpen_ended (hf : ∀ k, (f k).state.inProgress = false) : openClip (updateOpen f s) = none := by
  refine List.find?_eq_none.2 fun x hx => ?_
  obtain ⟨k, _, rfl⟩ := List.mem_map.1 hx
  by_cases hk : k.state.inProgress = true <;> simp [hk, hf]

theorem mem_updateOpen (h : openClip s = some k) : f k ∈ (updateOpen f s).recorder.clips :=
  List.mem_map.2 ⟨k, mem_of_openClip h, if_pos (inProgress_of_openClip h)⟩

theorem updateOpen_updateOpen (hf : keepsOpen f) : updateOpen g (updateOpen f s) = updateOpen (g ∘ f) s := by
  simp only [updateOpen, List.map_map]
  congr 2
  refine List.map_congr_left fun k _ => ?_
  by_cases hk : k.state.inProgress = true <;> simp [hk, hf k]

theorem card_updateOpen (c : CardSlot) : card c (updateOpen f s) = card c s := card_congr c rfl rfl

end

/-! ### Marks on the open clip (R127) -/

section
variable {s : State} {k : Clip}

theorem keepsOpen_addMark (kind : MarkKind) (detail : Option Nat) : keepsOpen (Clip.addMark kind detail) := by
  intro k
  unfold Clip.addMark
  split <;> rfl

theorem keepsOpen_degradedBy (c : CardSlot) : keepsOpen (Clip.degradedBy c) := by
  intro k
  unfold Clip.degradedBy
  split <;> rfl

/-- A RELAY or DEGRADED mark is added to a CLOSING clip too (R127). -/
theorem addMark_eq {kind : MarkKind} (hopen : openClip s = some k) (hkind : kind.takenClosing = true)
    (detail : Option Nat) : addMark kind detail s = updateOpen (Clip.addMark kind detail) s := by
  have hgood : kind ≠ .good := by rintro rfl; cases hkind
  simp [addMark, markTaken, hopen, hkind, hgood]

theorem card_addMark (d : CardSlot) (kind : MarkKind) (detail : Option Nat) (s : State) :
    card d (addMark kind detail s) = card d s := by
  unfold addMark
  split
  · dsimp only
    split <;> exact card_congr d rfl rfl
  · rfl

theorem card_degrade (d c : CardSlot) (s : State) : card d (degrade c s) = card d s := by
  rw [degrade, card_addMark, card_updateOpen]

theorem degrade_eq (c : CardSlot) (hopen : openClip s = some k) :
    degrade c s = updateOpen (Clip.degradedBy c) s := by
  have hkeeps : keepsOpen fun k : Clip => { k with degraded := true } := fun _ => rfl
  have hopen' := (openClip_updateOpen (s := s) hkeeps).trans (congrArg _ hopen)
  rw [degrade, addMark_eq hopen' rfl, updateOpen_updateOpen hkeeps]
  congr 1
  funext k
  simp only [Function.comp_def, Clip.addMark, Clip.degradedBy, ge_iff_le]
  by_cases hfull : 16 ≤ k.marks.length
  · rw [if_pos hfull, if_neg (Nat.not_lt.2 hfull)]
  · rw [if_neg hfull, if_pos (Nat.lt_of_not_le hfull)]
    cases c <;> rfl

end

/-! ### Target cards (R109) -/

section
variable {s t : State} (c : CardSlot) (on : Bool)

theorem isTarget_congr (h : t.recorder = s.recorder) : isTarget c t = isTarget c s := by
  cases c <;> simp only [isTarget, h]

@[simp] theorem isTarget_setTarget : isTarget c (setTarget c on s) = on := by cases c <;> rfl

@[simp] theorem isTarget_setTarget_other : isTarget (otherCard c) (setTarget c on s) = isTarget (otherCard c) s := by
  cases c <;> rfl

theorem setTarget_of_eq (h : isTarget c s = on) : setTarget c on s = s := by
  cases c <;> subst h <;> rfl

theorem hasTarget_setTarget : hasTarget (setTarget c false s) = isTarget (otherCard c) s := by
  cases c
  · exact Bool.false_or _
  · exact Bool.or_false _

theorem isTarget_updateOpen (f : Clip → Clip) (s : State) : isTarget c (updateOpen f s) = isTarget c s := by
  cases c <;> rfl

theorem card_setTarget (d : CardSlot) : card d (setTarget c on s) = card d s := by
  cases c <;> exact card_congr d rfl rfl

@[simp] theorem setTarget_unit : (setTarget c on s).unit = s.unit := by cases c <;> rfl

@[simp] theorem openClip_setTarget : openClip (setTarget c on s) = openClip s := by
  cases c <;> exact openClip_congr rfl

theorem setTarget_frame : (setTarget c on s).recorder = { s.recorder with
    targetA := (setTarget c on s).recorder.targetA, targetB := (setTarget c on s).recorder.targetB } := by
  cases c <;> rfl

end

/-! ### Extents that a card returns (R122, R123, R124) -/

section
variable {s t : State} {c : CardSlot} {e : Extent}

@[simp] theorem withEssences_recorder (es : List Essence) (u : SlotUnit) (s : State) :
    (withEssences es u s).recorder = { s.recorder with essences := es } := rfl

theorem card_withEssences (d : CardSlot) (es : List Essence) (u : SlotUnit) (s : State) :
    card d (withEssences es u s) = card d s := card_congr d rfl rfl

theorem isTarget_withEssences (d : CardSlot) (es : List Essence) (u : SlotUnit) (s : State) :
    isTarget d (withEssences es u s) = isTarget d s := by cases d <;> rfl

theorem openClip_withEssences (es : List Essence) (u : SlotUnit) (s : State) :
    openClip (withEssences es u s) = openClip s := rfl

theorem settleBySides_frame (slot : Fin 32) (place : Nat) (s : State) : settleBySides slot place s
    = withEssences (settleBySides slot place s).recorder.essences (settleBySides slot place s).unit s := by
  unfold settleBySides
  split
  · split
    · exact settle_frame s _ _ _
    · rfl
  · rfl

theorem failSide_frame (c : CardSlot) (e : Extent) (s : State) : failSide c e s
    = withEssences (failSide c e s).recorder.essences (failSide c e s).unit s :=
  (settleBySides_frame e.slot e.place (setSide c .failed e.slot e.place s)).trans rfl

theorem failAll_frame (c : CardSlot) (l : List Extent) (s : State) : failAll c l s
    = withEssences (failAll c l s).recorder.essences (failAll c l s).unit s := by
  induction l generalizing s with
  | nil => rfl
  | cons e rest ih =>
    have hcons : failAll c (e :: rest) s = failAll c rest (failSide c e s) := rfl
    rw [hcons, ih, failSide_frame]
    rfl

theorem card_failSide (d c : CardSlot) (e : Extent) (s : State) : card d (failSide c e s) = card d s := by
  rw [failSide_frame, card_withEssences]

theorem card_failAll (d c : CardSlot) (l : List Extent) (s : State) : card d (failAll c l s) = card d s := by
  rw [failAll_frame, card_withEssences]

theorem settle_of_no_essence (h : s.recorder.essences = []) (o : ExtentOutcome) (slot : Fin 32) (place : Nat) :
    settle o slot place s = s := by
  simp [settle, essenceExtent, h]

theorem discardAll_of_no_essence (h : s.recorder.essences = []) (l : List Extent) : discardAll l s = s := by
  induction l with
  | nil => rfl
  | cons e rest ih =>
    have hcons : discardAll (e :: rest) s = discardAll rest (settle .discarded e.slot e.place s) := rfl
    rw [hcons, settle_of_no_essence h, ih]

theorem setSide_of_no_essence (h : s.recorder.essences = []) (side : Side) (slot : Fin 32) (place : Nat) :
    setSide c side slot place s = s := by
  simp only [setSide, updateExtent, h, List.map_nil]
  rw [← h]

theorem failAll_of_no_essence (h : s.recorder.essences = []) (l : List Extent) : failAll c l s = s := by
  induction l with
  | nil => rfl
  | cons e rest ih =>
    have hcons : failAll c (e :: rest) s = failAll c rest (failSide c e s) := rfl
    have hside : failSide c e s = s := by
      rw [failSide, setSide_of_no_essence h]
      simp [settleBySides, essenceExtent, h]
    rw [hcons, hside, ih]

theorem essenceExtent_sole {n : Fin 32} {x : EssenceExtent} (h : s.recorder.essences = [⟨n, 1, [x]⟩]) :
    essenceExtent n 0 s = some x := by simp [essenceExtent, h]

theorem setSide_sole {n : Fin 32} {x : EssenceExtent} (h : s.recorder.essences = [⟨n, 1, [x]⟩]) (c : CardSlot)
    (side : Side) : setSide c side n 0 s = withEssences [⟨n, 1, [x.withSide c side]⟩] s.unit s := by
  simp [setSide, updateExtent, h, withEssences]

/-- The record of a request whose one extent has been given its outcome. -/
def endedEssence (n : Fin 32) (x : EssenceExtent) (o : ExtentOutcome) : Essence :=
  ⟨n, 0, [{ x with outcome := some (x.outcomeOr o) }]⟩

/-- The essence request of one extent without an outcome ends with that extent (R118, R124). -/
theorem settle_sole {n : Fin 32} {x : EssenceExtent} (hes : s.recorder.essences = [⟨n, 1, [x]⟩])
    (hout : x.outcome = none) (hserving : s.unit.slots[n].state.inService = true) (o : ExtentOutcome) :
    settle o n 0 s = withEssences [] (answered n (essenceStatus [some (x.outcomeOr o)])
      (byteOf (x.outcomeOr o).code :: field16 x.clip) s).unit s := by
  have hended : settle o n 0 s = finishEssence n (withEssences [endedEssence n x o] s.unit s) := by
    rw [settle, essenceExtent_sole hes]
    simp [updateExtent, hes, withEssences, hout, endedEssence]
  have hfind : ([endedEssence n x o].find? fun e => e.slot == n) = some (endedEssence n x o) := by simp [endedEssence]
  have hnone : ([endedEssence n x o].filter fun e => e.slot != n) = [] := by simp [endedEssence]
  have htake : (essenceResult (endedEssence n x o)).take 240 = byteOf (x.outcomeOr o).code :: field16 x.clip := rfl
  rw [hended, finishEssence_of_find (s := withEssences [endedEssence n x o] s.unit s) hfind rfl,
    complete_eq_answered (s := withEssences [endedEssence n x o] s.unit s) hserving, htake]
  exact congrArg (withEssences · _ s) hnone

theorem answered_unit_congr (h : t.unit = s.unit) (n : Fin 32) (status : Status) (result : List Byte) :
    (answered n status result t).unit = (answered n status result s).unit := by
  simp only [answered, h]

theorem withSide_other (c : CardSlot) (side : Side) (x : EssenceExtent) :
    (x.withSide c side).side (otherCard c) = x.side (otherCard c) := by cases c <;> rfl

theorem withSide_quiet (c : CardSlot) (x : EssenceExtent) :
    (x.withSide c .failed).quiet = (x.side (otherCard c) != .queued) := by
  cases c
  · rfl
  · exact Bool.and_true _

theorem withSide_outcome (c : CardSlot) (side : Side) (x : EssenceExtent) :
    (x.withSide c side).outcome = x.outcome ∧ (x.withSide c side).clip = x.clip := by cases c <;> exact ⟨rfl, rfl⟩

/-- An extent that failed on a card is written on the other one, or LOST (R124). -/
theorem outcomeOr_withSide (c : CardSlot) (x : EssenceExtent) : (x.withSide c .failed).outcomeOr .lost
    = if x.side (otherCard c) = .written then (if otherCard c = .a then .writtenA else .writtenB) else .lost := by
  obtain ⟨outcome, clip, record, sideA, sideB⟩ := x
  cases c
  · cases sideB <;> rfl
  · cases sideA <;> rfl

theorem failSide_sole {n : Fin 32} {x : EssenceExtent} (hes : s.recorder.essences = [⟨n, 1, [x]⟩]) (hslot : e.slot = n)
    (hplace : e.place = 0) : failSide c e s
      = if x.side (otherCard c) = .queued then withEssences [⟨n, 1, [x.withSide c .failed]⟩] s.unit s
        else settle .lost n 0 (withEssences [⟨n, 1, [x.withSide c .failed]⟩] s.unit s) := by
  rw [failSide, hslot, hplace, setSide_sole hes, settleBySides, essenceExtent_sole rfl]
  simp only [withSide_quiet]
  by_cases h : x.side (otherCard c) = .queued <;> simp [h]

/-- What becomes of the one extent of a request when a card returns it: it waits while it is queued on the other card,
and is settled by that side else (R122, R123, R124; log 35). -/
def extentReturned (c : CardSlot) (e : Extent) (s t : State) : Prop := returnSettled c e s t
  ∧ ∀ n x, s.recorder.essences = [⟨n, 1, [x]⟩] → e.slot = n → e.place = 0 → x.side (otherCard c) = .queued →
    t.recorder.essences = [⟨n, 1, [x.withSide c .failed]⟩] ∧ t.unit = s.unit

theorem failSide_settled (hes : t.recorder.essences = s.recorder.essences) (hunit : t.unit = s.unit) :
    returnSettled c e s (failSide c e t) := by
  intro n x hsole hslot hplace hout hside hrunning
  obtain ⟨hout', hclip⟩ := withSide_outcome c .failed x
  have hserving : t.unit.slots[n].state.inService = true := by rw [hunit, hrunning]; rfl
  rw [failSide_sole (hes.trans hsole) hslot hplace, if_neg hside,
    settle_sole (s := withEssences _ t.unit t) (n := n) rfl (hout'.trans hout) hserving, outcomeOr_withSide, hclip]
  refine ⟨rfl, (answered_unit_congr (t := withEssences _ t.unit t) (s := s) hunit n _ _).trans ?_⟩
  by_cases hwritten : x.side (otherCard c) = .written
  · rw [if_pos hwritten, if_pos hwritten]
    split <;> rfl
  · rw [if_neg hwritten, if_neg hwritten]
    rfl

theorem failSide_returned (hes : t.recorder.essences = s.recorder.essences) (hunit : t.unit = s.unit) :
    extentReturned c e s (failSide c e t) := by
  refine ⟨failSide_settled hes hunit, fun n x hsole hslot hplace hside => ?_⟩
  rw [failSide_sole (hes.trans hsole) hslot hplace, if_pos hside]
  exact ⟨rfl, hunit⟩

theorem returnSettled_congr {u : State} (h : returnSettled c e s t) (hes : u.recorder.essences = t.recorder.essences)
    (hunit : u.unit = t.unit) : returnSettled c e s u := by
  unfold returnSettled at h ⊢
  rw [hes, hunit]
  exact h

/-- What `returnSettled` says of the state before reads only the essence records and the slot unit. -/
theorem returnSettled_before {u : State} (h : returnSettled c e u t) (hes : u.recorder.essences = s.recorder.essences)
    (hunit : u.unit = s.unit) : returnSettled c e s t := by
  intro n x hsole hslot hplace hout hside hrunning
  obtain ⟨hended, hanswered⟩ := h n x (hes.trans hsole) hslot hplace hout hside (hunit ▸ hrunning)
  refine ⟨hended, hanswered.trans ?_⟩
  split <;> exact answered_unit_congr hunit ..

theorem extentReturned_congr {u : State} (h : extentReturned c e s t)
    (hes : u.recorder.essences = t.recorder.essences) (hunit : u.unit = t.unit) : extentReturned c e s u := by
  obtain ⟨hsettled, hwaits⟩ := h
  refine ⟨returnSettled_congr hsettled hes hunit, ?_⟩
  rw [hes, hunit]
  exact hwaits

end

end Sys2Proof.Machine
end

section
/-! PROOFS. How a clip ends: what a broken clip and a closed one leave in the record engine, and the index answers. -/
namespace Sys2Proof.Machine

/-! ### Targets dropped, requests ended (R112, R113, R125, R126) -/

section
variable {s : State} {c : CardSlot}

theorem setRecState_frame (st : RecState) (s : State) : setRecState st s = { s with
    recorder := { s.recorder with state := st, pulse := (setRecState st s).recorder.pulse }
    events := (setRecState st s).events } := by
  obtain ⟨hst, h⟩ | ⟨p, _, h⟩ := setRecState_cases st s
  · rw [h, ← hst]
  · rw [h]; rfl

theorem card_setRecState (d : CardSlot) (st : RecState) (s : State) : card d (setRecState st s) = card d s := by
  rw [setRecState_frame]; exact card_congr d rfl rfl

/-- A target card that leaves the clip is deselected; any other card stays as it is. -/
theorem dropTarget_eq (c : CardSlot) (s : State) : dropTarget c s
    = withCardState c (if isTarget c s = true then deselectedState c s else (card c s).state) (dropTarget c s).events
        (setTarget c false s) := by
  unfold dropTarget
  split
  · rw [deselect_eq]; cases c <;> rfl
  next h => rw [setTarget_of_eq c false (Bool.eq_false_iff.2 h), withCardState_same]

/-- No card is a target any more, and those that were have been deselected. -/
def dropTargets (s : State) : State := dropTarget .b (dropTarget .a s)

theorem dropTarget_recorder (c : CardSlot) (s : State) : (dropTarget c s).recorder = (setTarget c false s).recorder := by
  rw [dropTarget_eq, withCardState_recorder]

theorem dropTargets_recorder (s : State) :
    (dropTargets s).recorder = { s.recorder with targetA := false, targetB := false } := by
  have hb : (setTarget .b false (dropTarget .a s)).recorder
      = { (dropTarget .a s).recorder with targetB := false } := rfl
  rw [dropTargets, dropTarget_recorder, hb, dropTarget_recorder]
  rfl

theorem dropTarget_unit (c : CardSlot) (s : State) : (dropTarget c s).unit = s.unit := by
  rw [dropTarget_eq, withCardState_unit, setTarget_unit]

theorem dropTargets_unit (s : State) : (dropTargets s).unit = s.unit := by
  rw [dropTargets, dropTarget_unit, dropTarget_unit]

theorem deselectedState_congr {t : State} (hcard : card c t = card c s) (hlines : t.lines = s.lines) :
    deselectedState c t = deselectedState c s := by
  unfold deselectedState
  rw [hcard, isProtected_congr c hlines]

theorem card_dropTarget_same (c : CardSlot) (s : State) : card c (dropTarget c s)
    = { card c s with state := if isTarget c s = true then deselectedState c s else (card c s).state } := by
  rw [dropTarget_eq, card_withCardState, card_setTarget]

theorem card_dropTarget_other (c : CardSlot) (s : State) :
    card (otherCard c) (dropTarget c s) = card (otherCard c) s := by
  rw [dropTarget_eq, card_withCardState_other, card_setTarget]

theorem card_dropTargets (c : CardSlot) (s : State) : card c (dropTargets s)
    = { card c s with state := if isTarget c s = true then deselectedState c s else (card c s).state } := by
  cases c with
  | a => exact (card_dropTarget_other .b (dropTarget .a s)).trans (card_dropTarget_same .a s)
  | b =>
    have hcard : card .b (dropTarget .a s) = card .b s := card_dropTarget_other .a s
    have htarget : isTarget .b (dropTarget .a s) = isTarget .b s :=
      (congrArg Recorder.targetB (dropTarget_recorder .a s)).trans rfl
    have hlines : (dropTarget .a s).lines = s.lines := lines_of_outside (by simp)
    exact (card_dropTarget_same .b (dropTarget .a s)).trans (by rw [hcard, htarget, deselectedState_congr hcard hlines])

theorem endStart_frame (status : Status) (result : List Byte) (s : State) : endStart status result s
    = { s with recorder := { s.recorder with pendingStart := none }, unit := (endStart status result s).unit } := by
  unfold endStart
  split
  next source _ =>
    cases source with
    | request slot => exact complete_frame ..
    | operator | cue => rfl
  next h => rw [← h]

theorem endStart_recorder (status : Status) (result : List Byte) (s : State) :
    (endStart status result s).recorder = { s.recorder with pendingStart := none } :=
  congrArg State.recorder (endStart_frame status result s)

theorem card_endStart (d : CardSlot) (status : Status) (result : List Byte) (s : State) :
    card d (endStart status result s) = card d s := by
  rw [endStart_frame]; exact card_congr d rfl rfl

theorem endStart_of_none (h : s.recorder.pendingStart = none) (status : Status) (result : List Byte) :
    endStart status result s = s := by simp only [endStart, h]

theorem endStopRequest_frame (status : Status) (result : List Byte) (s : State) : endStopRequest status result s
    = { s with recorder := { s.recorder with stopReq := none }, unit := (endStopRequest status result s).unit } := by
  unfold endStopRequest
  split
  · exact complete_frame ..
  next h => rw [← h]

theorem endStopRequest_recorder (status : Status) (result : List Byte) (s : State) :
    (endStopRequest status result s).recorder = { s.recorder with stopReq := none } :=
  congrArg State.recorder (endStopRequest_frame status result s)

theorem card_endStopRequest (d : CardSlot) (status : Status) (result : List Byte) (s : State) :
    card d (endStopRequest status result s) = card d s := by
  rw [endStopRequest_frame]; exact card_congr d rfl rfl

theorem discardAll_recorder (l : List Extent) (s : State) :
    ∃ es, (discardAll l s).recorder = { s.recorder with essences := es } :=
  ⟨_, (congrArg State.recorder (discardAll_frame s l)).trans rfl⟩

theorem card_discardAll (d : CardSlot) (l : List Extent) (s : State) : card d (discardAll l s) = card d s := by
  rw [discardAll_frame, card_withEssences]

theorem endStopRequest_of_none (h : s.recorder.stopReq = none) (status : Status) (result : List Byte) :
    endStopRequest status result s = s := by simp only [endStopRequest, h]

theorem endStopRequest_answered {m : Fin 32} (h : s.recorder.stopReq = some m)
    (hrunning : s.unit.slots[m].state = .running) (status : Status) {result : List Byte} (hlength : result.length ≤ 240) :
    (endStopRequest status result s).unit = (answered m status result s).unit := by
  have hserving : s.unit.slots[m].state.inService = true := by rw [hrunning]; rfl
  simp only [endStopRequest, h]
  rw [complete_eq_answered (by exact hserving), List.take_of_length_le hlength]
  rfl

/-! #### Stops and the idle state leave the cards alone -/

theorem card_keepHeld (d : CardSlot) (l : List Extent) (s : State) : card d (keepHeld l s) = card d s := by
  unfold keepHeld
  split
  · exact (card_discardAll ..).trans (card_congr d rfl rfl)
  · exact (card_discardAll ..).trans (card_congr d rfl rfl)

theorem card_toIdle (d : CardSlot) (s : State) : card d (toIdle s) = card d s := by
  unfold toIdle
  dsimp only
  rw [card_keepHeld, card_setRecState]

theorem card_trimAfter (d : CardSlot) (s : State) : card d (trimAfter s) = card d s := by
  unfold trimAfter
  split
  · exact (card_discardAll ..).trans (card_congr d rfl rfl)
  · exact (card_discardAll ..).trans (card_congr d rfl rfl)

theorem card_clearRestart (d : CardSlot) (status : Status) (s : State) : card d (clearRestart status s) = card d s := by
  unfold clearRestart
  split
  · dsimp only
    split
    · rw [card_trimAfter, card_endStart]; exact card_congr d rfl rfl
    · rw [card_endStart]; exact card_congr d rfl rfl
  · rfl

theorem card_stopGiven (d : CardSlot) (reason : StopReason) (s : State) : card d (stopGiven reason s) = card d s := by
  unfold stopGiven
  split
  · split
    · exact card_clearRestart ..
    · exact card_congr d rfl rfl
  · exact card_clearRestart ..
  · rw [abandonArming, card_toIdle, card_endStart]
  all_goals rfl

/-- The results of a stop of a clip in the words of the statements (R113). -/
theorem stopResult_eq (k : Clip) : stopResult k = field16 k.number ++ field24 k.frames
    ++ labelBytes (k.endLabel.getD Label.zero) ++ [BitVec.ofNat 8 ((k.reason.map StopReason.code).getD 0)] := by
  rw [stopResult, byteOf, BitVec.ofInt_natCast]

theorem stopResult_length (k : Clip) : (stopResult k).length ≤ 240 := by
  simp [stopResult, field16, field24, littleEndian, labelBytes]

end

/-! ### A broken clip (R126) -/

section
variable {s : State} {k : Clip}

/-- The state of a broken clip, before the requests that wait for it are ended: HALTED, with no target card. -/
def clipHalted (s : State) : State :=
  dropTargets (setRecState .halted (updateOpen (fun k => { k with state := .broken }) s))

theorem clipHalted_recorder (s : State) : ∃ p, (clipHalted s).recorder = { s.recorder with
    state := .halted, pulse := p, targetA := false, targetB := false
    clips := (updateOpen (fun k => { k with state := .broken }) s).recorder.clips } := by
  rw [clipHalted, dropTargets_recorder, setRecState_frame]
  exact ⟨_, rfl⟩

theorem card_clipHalted (c : CardSlot) (s : State) : card c (clipHalted s)
    = { card c s with state := if isTarget c s = true then deselectedState c s else (card c s).state } := by
  have hcard : card c (setRecState .halted (updateOpen (fun k => { k with state := .broken }) s)) = card c s := by
    rw [card_setRecState, card_updateOpen]
  rw [clipHalted, card_dropTargets, hcard, setRecState_frame, deselectedState_congr (s := s)]
  · cases c <;> rfl
  · exact card_congr c rfl rfl
  · rfl

/-- The engine of a broken clip, before the requests that wait for it are ended. -/
def clipLeft (s : State) : State := { clipHalted s with recorder := { (clipHalted s).recorder with
  pendingStop := none, restart := false, phase := none, awaitA := false, awaitB := false } }

/-- The held and the after-stop list emptied. -/
def dropLists (s : State) : State := { s with recorder := { s.recorder with held := [], after := [] } }

theorem breakClip_eq (s : State) : ∃ result lists, (∀ k, openClip s = some k → result = stopResult k)
    ∧ breakClip s = discardAll lists
      (dropLists (endStopRequest .mediaFault result (endStart .mediaFault noStart (clipLeft s)))) := by
  refine ⟨_, _, fun k hopen => ?_, rfl⟩
  rw [hopen]

theorem clipLeft_recorder (s : State) : ∃ p, (clipLeft s).recorder = { s.recorder with
    state := .halted, pulse := p, targetA := false, targetB := false, pendingStop := none, restart := false
    phase := none, awaitA := false, awaitB := false
    clips := (updateOpen (fun k => { k with state := .broken }) s).recorder.clips } := by
  obtain ⟨p, h⟩ := clipHalted_recorder s
  refine ⟨p, ?_⟩
  rw [clipLeft, h]

theorem breakClip_recorder (s : State) : ∃ p es, (breakClip s).recorder = { s.recorder with
    state := .halted, pulse := p, targetA := false, targetB := false, pendingStop := none, restart := false
    phase := none, awaitA := false, awaitB := false, pendingStart := none, stopReq := none, held := [], after := []
    essences := es, clips := (updateOpen (fun k => { k with state := .broken }) s).recorder.clips } := by
  obtain ⟨result, lists, _, h⟩ := breakClip_eq s
  obtain ⟨p, hleft⟩ := clipLeft_recorder s
  obtain ⟨es, hes⟩ := discardAll_recorder lists (dropLists
    (endStopRequest .mediaFault result (endStart .mediaFault noStart (clipLeft s))))
  refine ⟨p, es, ?_⟩
  rw [h, hes, dropLists, endStopRequest_recorder, endStart_recorder, hleft]

theorem card_breakClip (c : CardSlot) (s : State) : card c (breakClip s)
    = { card c s with state := if isTarget c s = true then deselectedState c s else (card c s).state } := by
  obtain ⟨result, lists, _, h⟩ := breakClip_eq s
  have hlists (t : State) : card c (dropLists t) = card c t := card_congr c rfl rfl
  have hleft : card c (clipLeft s) = card c (clipHalted s) := card_congr c rfl rfl
  rw [h, card_discardAll, hlists, card_endStopRequest, card_endStart, hleft, card_clipHalted]

theorem clipLeft_unit (s : State) : (clipLeft s).unit = s.unit := by
  have hleft : (clipLeft s).unit = (clipHalted s).unit := rfl
  rw [hleft, clipHalted, dropTargets_unit, setRecState_frame]
  rfl

/-- With no start pending and no extent claimed, the stop request is all that ends with a broken clip. -/
theorem breakClip_unit (hopen : openClip s = some k) (hstart : s.recorder.pendingStart = none)
    (hes : s.recorder.essences = []) : (breakClip s).recorder.essences = []
      ∧ (breakClip s).unit = (endStopRequest .mediaFault (stopResult k) (clipLeft s)).unit := by
  obtain ⟨result, lists, hresult, h⟩ := breakClip_eq s
  obtain rfl := hresult k hopen
  obtain ⟨p, hleft⟩ := clipLeft_recorder s
  have hstart' : (clipLeft s).recorder.pendingStart = none := by rw [hleft]; exact hstart
  have hes' : (dropLists (endStopRequest .mediaFault (stopResult k) (clipLeft s))).recorder.essences = [] := by
    rw [dropLists, endStopRequest_recorder, hleft]
    exact hes
  rw [h, endStart_of_none hstart', discardAll_of_no_essence hes']
  exact ⟨hes', rfl⟩

theorem isLatched_breakClip (hst : s.recorder.state ≠ .halted)
    (hm : isMuted .recState s = false) : isLatched .recState (breakClip s) = true := by
  obtain ⟨result, lists, _, h⟩ := breakClip_eq s
  have hhalted : isLatched .recState (setRecState .halted
      (updateOpen (fun k => { k with state := .broken }) s)) = true := isLatched_setRecState hst hm
  have hleft : Keeps (clipHalted s) (clipLeft s) := Keeps.refl (clipHalted s)
  have hended := keeps_endStopRequest (keeps_endStart hleft .mediaFault noStart) .mediaFault result
  rw [h]
  refine (keeps_discardAll (s := dropLists _) hended lists).isLatched_of _ ?_
  exact (keeps_dropTarget (keeps_dropTarget (Keeps.refl _) _) _).isLatched_of _ hhalted

theorem clipBroken_breakClip (hopen : openClip s = some k) (hst : s.recorder.state ≠ .halted) :
    clipBroken k s (breakClip s) := by
  obtain ⟨p, es, h⟩ := breakClip_recorder s
  have hnone : openClip (breakClip s) = none :=
    (openClip_congr (by rw [h])).trans (openClip_updateOpen_ended (s := s) fun _ => rfl)
  have hmem := mem_updateOpen (f := fun k => { k with state := .broken }) hopen
  refine ⟨by rw [h], hnone, by rw [h]; exact hmem, by rw [h], by rw [h], by rw [h], by rw [h], by rw [h], by rw [h],
    by rw [h], isLatched_breakClip hst, fun m hstop hstart hes hrunning hend => ⟨by rw [h], ?_⟩⟩
  obtain ⟨_, hunit⟩ := breakClip_unit hopen hstart hes
  obtain ⟨q, hleft⟩ := clipLeft_recorder s
  have hstop' : (clipLeft s).recorder.stopReq = some m := by rw [hleft]; exact hstop
  rw [hunit, endStopRequest_answered hstop' (by rw [clipLeft_unit]; exact hrunning) _ (stopResult_length k),
    stopResult_eq, hend, answered_unit_congr (clipLeft_unit s)]
  rfl

end

end Sys2Proof.Machine
end

section
/-! PROOFS. The loss of a card: outside the clip, in RELAY and in MIRROR (R122, R123). -/
namespace Sys2Proof.Machine

/-! ### A clip that breaks with the extents returned (R122, R126) -/

section
variable {s t u : State} {c : CardSlot} {e : Extent} {k : Clip}

/-- What `clipBroken` says of the state before reads only the stop request, the pending start, the essence records,
the slot unit and the mute of REC_STATE. -/
theorem clipBroken_congr (h : clipBroken k u t) (hm : isMuted .recState s = isMuted .recState u)
    (hstop : s.recorder.stopReq = u.recorder.stopReq) (hstart : s.recorder.pendingStart = u.recorder.pendingStart)
    (hes : s.recorder.essences = [] → u.recorder.essences = [] ∧ u.unit = s.unit) : clipBroken k s t := by
  obtain ⟨hhalted, hnone, hmem, ha, hb, hpending, hrestart, hphase, hheld, hafter, hlatched, hunit⟩ := h
  refine ⟨hhalted, hnone, hmem, ha, hb, hpending, hrestart, hphase, hheld, hafter, hm ▸ hlatched,
    fun m hm' hstart' hempty hrunning hend => ?_⟩
  obtain ⟨hes', hu⟩ := hes hempty
  rw [← answered_unit_congr hu]
  exact hunit m (hstop ▸ hm') (hstart ▸ hstart') hes' (hu ▸ hrunning) hend

theorem loseClip_broken (hopen : openClip s = some k) (hst : s.recorder.state ≠ .halted) (l : List Extent) :
    clipBroken k s (loseClip c l s) := by
  have hframe := failAll_frame c l s
  have hbroken : clipBroken k (failAll c l s) (loseClip c l s) := by
    refine clipBroken_breakClip ?_ ?_
    · rw [hframe]; exact hopen
    · rw [hframe]; exact hst
  refine clipBroken_congr hbroken ?_ ?_ ?_ fun hempty => ?_
  · rw [hframe]; rfl
  · rw [hframe]; rfl
  · rw [hframe]; rfl
  · rw [failAll_of_no_essence hempty]
    exact ⟨hempty, rfl⟩

/-- A clip that breaks with no request waiting for it leaves the returned extent as it was settled. -/
theorem loseClip_returnSettled (hopen : openClip s = some k) (hstop : s.recorder.stopReq = none)
    (hstart : s.recorder.pendingStart = none) : returnSettled c e s (loseClip c [e] s) := by
  have hframe := failSide_frame c e s
  intro n x hes hslot hplace hout hside hrunning
  obtain ⟨hes', hunit⟩ := failSide_settled (c := c) (e := e) rfl rfl n x hes hslot hplace hout hside hrunning
  have hopen' : openClip (failSide c e s) = some k := by rw [hframe]; exact hopen
  have hstart' : (failSide c e s).recorder.pendingStart = none := by rw [hframe]; exact hstart
  have hstop' : (clipLeft (failSide c e s)).recorder.stopReq = none := by
    obtain ⟨p, h⟩ := clipLeft_recorder (failSide c e s)
    rw [h, hframe]; exact hstop
  obtain ⟨hleft, hsame⟩ := breakClip_unit hopen' hstart' hes'
  rw [endStopRequest_of_none hstop', clipLeft_unit] at hsame
  exact ⟨hleft, hsame.trans hunit⟩

end

/-! ### The clip moves onto the other card (R121, R122) -/

section
variable {s : State} {c d : CardSlot} {e : Extent} {k : Clip}

/-- A clip with a new span on a card and a RELAY mark. -/
def Clip.relayedTo (d : CardSlot) (k : Clip) : Clip :=
  Clip.addMark .relay none { k with spans := k.spans ++ [⟨d, none, 0⟩] }

theorem keepsOpen_relayedTo (d : CardSlot) : keepsOpen (Clip.relayedTo d) := fun _ => keepsOpen_addMark ..

/-- The state with the target of a RELAY clip changed, before the clip is. -/
def relaySelected (c : CardSlot) (s : State) : State :=
  setTarget (otherCard c) true (select (otherCard c) (setTarget c false s))

theorem relaySelected_recorder (c : CardSlot) (s : State) :
    (relaySelected c s).recorder = { s.recorder with targetA := c == .b, targetB := c == .a } := by
  cases c <;> (simp only [relaySelected, setTarget, otherCard, select_recorder]; rfl)

theorem relaySelected_unit (c : CardSlot) (s : State) : (relaySelected c s).unit = s.unit := by
  rw [relaySelected, setTarget_unit, select_unit, setTarget_unit]

theorem openClip_relaySelected (c : CardSlot) (s : State) : openClip (relaySelected c s) = openClip s :=
  openClip_congr (by rw [relaySelected_recorder])

theorem relayFrom_eq (hopen : openClip s = some k) (c : CardSlot) :
    relayFrom c s = latch .relay (updateOpen (Clip.relayedTo (otherCard c)) (relaySelected c s)) := by
  have hspan : keepsOpen fun k : Clip => { k with spans := k.spans ++ [⟨otherCard c, none, 0⟩] } := fun _ => rfl
  have hopen' : openClip (openSpan (otherCard c) (relaySelected c s))
      = some { k with spans := k.spans ++ [⟨otherCard c, none, 0⟩] } := by
    rw [openSpan, openClip_updateOpen hspan, openClip_relaySelected, hopen]
    rfl
  have hmark : addMark .relay none (openSpan (otherCard c) (relaySelected c s))
      = updateOpen (Clip.relayedTo (otherCard c)) (relaySelected c s) := by
    rw [addMark_eq hopen' rfl, openSpan, updateOpen_updateOpen hspan]
    rfl
  rw [← hmark]
  rfl

theorem card_relaySelected_same (c : CardSlot) (s : State) : card c (relaySelected c s) = card c s := by
  have hother := card_select_other (otherCard c) (setTarget c false s)
  rw [otherCard_otherCard] at hother
  rw [relaySelected, card_setTarget, hother, card_setTarget]

theorem card_relaySelected_other (h : (card (otherCard c) s).state = .ready) :
    card (otherCard c) (relaySelected c s) = { card (otherCard c) s with state := .active } := by
  rw [relaySelected, card_setTarget, card_select, card_setTarget]
  rw [card_setTarget]; exact h

/-- The effects of a relay: the targets change over, the clip has its new span and its mark, and RELAY latches. -/
theorem relayFrom_recorder (hopen : openClip s = some k) (c : CardSlot) : ∃ clips,
    (relayFrom c s).recorder = { s.recorder with targetA := c == .b, targetB := c == .a, clips := clips } := by
  rw [relayFrom_eq hopen, latch_recorder, updateOpen, relaySelected_recorder]
  exact ⟨_, rfl⟩

theorem relayFrom_unit (hopen : openClip s = some k) (c : CardSlot) : (relayFrom c s).unit = s.unit := by
  rw [relayFrom_eq hopen, latch_unit, ← relaySelected_unit c s]
  rfl

theorem openClip_relayFrom (hopen : openClip s = some k) (c : CardSlot) :
    openClip (relayFrom c s) = some (k.relayedTo (otherCard c)) := by
  have hlatch (t : State) : openClip (latch .relay t) = openClip t := openClip_congr rfl
  rw [relayFrom_eq hopen, hlatch, openClip_updateOpen (keepsOpen_relayedTo _), openClip_relaySelected, hopen]
  rfl

theorem card_relayFrom (hopen : openClip s = some k) (c d : CardSlot) :
    card d (relayFrom c s) = card d (relaySelected c s) := by
  rw [relayFrom_eq hopen]
  exact card_congr d rfl rfl

theorem isLatched_relayFrom (c : CardSlot) (hm : isMuted .relay s = false) :
    isLatched .relay (relayFrom c s) = true := by
  refine isLatched_latch ?_
  have hkeeps : Keeps s (addMark .relay none (openSpan (otherCard c) (relaySelected c s))) :=
    keeps_addMark (keeps_openSpan (keeps_setTarget (keeps_select (keeps_setTarget (Keeps.refl s) _ _) _) _ _) _) _ _
  exact (hkeeps.isMuted_eq .relay).trans hm

/-! ### The extent returned is queued to the other card, or refused there (R101, R122) -/

/-- The last span on a card, where it is the last span of all. -/
theorem lastSpan_append (f : Span → Span) (l : List Span) {sp : Span} (h : sp.card = d) :
    lastSpan d f (l ++ [sp]) = l ++ [f sp] := by
  induction l with
  | nil => simp [lastSpan, h]
  | cons x rest ih => simp [lastSpan, ih, h]

theorem serveLink_frame (k : Card) : k.serveLink = { k with op := k.serveLink.op } := by
  unfold Card.serveLink
  split
  · rfl
  · split <;> rfl

/-- The state with an extent queued to a card that has room for it, and with the QUEUED answer recorded. -/
def extentTaken (d : CardSlot) (e : Extent) (s : State) : State :=
  let k := card d s
  setCard d { k with
    reserved := k.reserved + blocksFor e.length
    queue := k.queue ++ [⟨e, k.committed + k.reserved, blocksFor e.length⟩] }
    (extentQueued d e (k.committed + k.reserved) s)

theorem tryQueue_of_room (hst : (card d s).state = .active) (hroom : blocksFor e.length ≤ (card d s).free)
    (hqueue : (card d s).queue.length < 512) :
    tryQueue d e s = (.queued ((card d s).committed + (card d s).reserved) (blocksFor e.length),
      startNext d (extentTaken d e s)) := by
  have hanswer : queueAnswer (card d s) e
      = .queued ((card d s).committed + (card d s).reserved) (blocksFor e.length) := by
    simp [queueAnswer, hst, Nat.not_lt.2 hroom, Nat.not_le.2 hqueue]
  have hcard : card d (extentQueued d e ((card d s).committed + (card d s).reserved) s) = card d s :=
    card_congr d rfl rfl
  simp only [tryQueue, hanswer, queueExtent, hcard]
  rfl

theorem tryQueue_of_noRoom (hst : (card d s).state = .active) (hroom : (card d s).free < blocksFor e.length) :
    tryQueue d e s = (.noRoom, checkPoint d (setCardState d .full s)) := by
  have hanswer : queueAnswer (card d s) e = .noRoom := by simp [queueAnswer, hst, hroom]
  simp only [tryQueue, hanswer, queueExtent]

theorem extentTaken_recorder (d : CardSlot) (e : Extent) (s : State) : (extentTaken d e s).recorder
    = (extentQueued d e ((card d s).committed + (card d s).reserved) s).recorder := setCard_recorder ..

/-- A clip whose last span on a card has its first block, where it had none (R120). -/
def Clip.firstOn (d : CardSlot) (first : Nat) (k : Clip) : Clip :=
  { k with spans := lastSpan d (fun sp => { sp with first := some (sp.first.getD first) }) k.spans }

theorem openClip_extentTaken (hopen : openClip s = some k) (d : CardSlot) (e : Extent) :
    openClip (extentTaken d e s) = some (k.firstOn d ((card d s).committed + (card d s).reserved)) := by
  have hkeeps : keepsOpen (Clip.firstOn d ((card d s).committed + (card d s).reserved)) := fun _ => rfl
  have hqueued := openClip_updateOpen (s := s) hkeeps
  rw [hopen] at hqueued
  exact (openClip_congr (by rw [extentTaken_recorder]; rfl)).trans hqueued

/-- The state in which a relay asks the other card for its first extent: the returned extent has failed on the lost
card. -/
def relayed (c : CardSlot) (e : Extent) (s : State) : State := relayFrom c (setSide c .failed e.slot e.place s)

theorem lostInRelay_relays (hphase : s.recorder.phase = none) (hrelay : canRelay c s = true) :
    lostInRelay c [e] s = requeueAll c [e] (relayed c e s) := by
  simp [lostInRelay, hphase, hrelay, relayed]

theorem relayed_recorder (hopen : openClip s = some k) (c : CardSlot) (e : Extent) : ∃ clips,
    (relayed c e s).recorder = { s.recorder with
      targetA := c == .b, targetB := c == .a, clips := clips
      essences := (setSide c .failed e.slot e.place s).recorder.essences } := by
  obtain ⟨clips, h⟩ := relayFrom_recorder (s := setSide c .failed e.slot e.place s) hopen c
  exact ⟨clips, h⟩

theorem relayed_unit (hopen : openClip s = some k) (c : CardSlot) (e : Extent) : (relayed c e s).unit = s.unit :=
  (relayFrom_unit (s := setSide c .failed e.slot e.place s) hopen c).trans rfl

theorem openClip_relayed (hopen : openClip s = some k) (c : CardSlot) (e : Extent) :
    openClip (relayed c e s) = some (k.relayedTo (otherCard c)) :=
  openClip_relayFrom (s := setSide c .failed e.slot e.place s) hopen c

theorem card_relayed_same (hopen : openClip s = some k) (c : CardSlot) (e : Extent) :
    card c (relayed c e s) = card c s := by
  rw [relayed, card_relayFrom (s := setSide c .failed e.slot e.place s) hopen, card_relaySelected_same]
  exact card_congr c rfl rfl

theorem card_relayed_other (hopen : openClip s = some k) (c : CardSlot) (e : Extent)
    (hready : (card (otherCard c) s).state = .ready) :
    card (otherCard c) (relayed c e s) = { card (otherCard c) s with state := .active } := by
  have hside : card (otherCard c) (setSide c .failed e.slot e.place s) = card (otherCard c) s := card_congr _ rfl rfl
  rw [relayed, card_relayFrom (s := setSide c .failed e.slot e.place s) hopen, card_relaySelected_other, hside]
  rw [hside]; exact hready

theorem isLatched_relayed (hm : isMuted .relay s = false) (c : CardSlot) (e : Extent) :
    isLatched .relay (relayed c e s) = true := isLatched_relayFrom c hm

theorem relayedTo_of_room (hmarks : k.marks.length < 16) (d : CardSlot) : k.relayedTo d = { k with
    spans := k.spans ++ [⟨d, none, 0⟩], marks := k.marks ++ [⟨.relay, k.frames - 1, none⟩] } := by
  rw [Clip.relayedTo, Clip.addMark, if_neg (Nat.not_le.2 hmarks)]

/-- The new span of a relay takes its first block from the extent that is queued there. -/
theorem relayedTo_firstOn (hmarks : k.marks.length < 16) (d : CardSlot) (first : Nat) :
    (k.relayedTo d).firstOn d first = { k with
      spans := k.spans ++ [⟨d, some first, 0⟩], marks := k.marks ++ [⟨.relay, k.frames - 1, none⟩] } := by
  have hspans := lastSpan_append (d := d) (fun sp : Span => { sp with first := some (sp.first.getD first) }) k.spans
    (sp := ⟨d, none, 0⟩) rfl
  rw [relayedTo_of_room hmarks, Clip.firstOn]
  exact congrArg (fun l => ({ k with
    spans := l, marks := k.marks ++ [⟨.relay, k.frames - 1, none⟩] } : Clip)) hspans

theorem isTarget_relayed (hopen : openClip s = some k) (c : CardSlot) (e : Extent) :
    isTarget c (relayed c e s) = false ∧ isTarget (otherCard c) (relayed c e s) = true := by
  obtain ⟨clips, h⟩ := relayed_recorder hopen c e
  cases c with
  | a => exact ⟨congrArg Recorder.targetA h, congrArg Recorder.targetB h⟩
  | b => exact ⟨congrArg Recorder.targetB h, congrArg Recorder.targetA h⟩

/-- The other card has room for the returned extent. -/
theorem requeueAll_of_room (hopen : openClip s = some k) (hready : (card (otherCard c) s).state = .ready)
    (hroom : blocksFor e.length ≤ (card (otherCard c) s).free) (hqueue : (card (otherCard c) s).queue.length < 512) :
    requeueAll c [e] (relayed c e s)
      = startNext (otherCard c) (extentTaken (otherCard c) e (relayed c e s)) := by
  have hcard := card_relayed_other hopen c e hready
  have htry := tryQueue_of_room (d := otherCard c) (e := e) (s := relayed c e s) (by rw [hcard])
    (by rw [hcard]; exact hroom) (by rw [hcard]; exact hqueue)
  rw [requeueAll, htry]
  rfl

/-- The state in which the other card has refused the returned extent and is no target any more. -/
def relayRefused (c : CardSlot) (e : Extent) (s : State) : State :=
  setTarget (otherCard c) false (checkPoint (otherCard c) (setCardState (otherCard c) .full (relayed c e s)))

theorem requeueAll_of_noRoom (hopen : openClip s = some k) (hready : (card (otherCard c) s).state = .ready)
    (hroom : (card (otherCard c) s).free < blocksFor e.length) : requeueAll c [e] (relayed c e s)
      = stopGiven .mediaFull (degrade c (failSide c e (relayRefused c e s))) := by
  have hcard := card_relayed_other hopen c e hready
  have htry := tryQueue_of_noRoom (d := otherCard c) (e := e) (s := relayed c e s) (by rw [hcard])
    (by rw [hcard]; exact hroom)
  rw [requeueAll, htry]
  rfl

/-- A clip that is DEGRADED with a stop made pending goes on: nothing but the clip and the pending stop changes. -/
theorem stopGiven_degrade {u : State} (hopen : openClip u = some k) (hst : u.recorder.state = .recording)
    (hpending : u.recorder.pendingStop = none) (c : CardSlot) (reason : StopReason) : ∃ clips,
    stopGiven reason (degrade c u)
        = { u with recorder := { u.recorder with pendingStop := some reason, clips := clips } }
      ∧ openClip (stopGiven reason (degrade c u)) = some (k.degradedBy c) := by
  have hpends : stopGiven reason (updateOpen (Clip.degradedBy c) u)
      = { u with recorder := { u.recorder with
          pendingStop := some reason, clips := (updateOpen (Clip.degradedBy c) u).recorder.clips } } := by
    simp [stopGiven, updateOpen, hst, hpending]
  have hdegraded := openClip_updateOpen (s := u) (keepsOpen_degradedBy c)
  rw [hopen] at hdegraded
  rw [degrade_eq c hopen, hpends]
  exact ⟨_, rfl, hdegraded⟩

/-- The relay onto a card with room: the extent is queued there and the clip goes on. -/
theorem requeueAll_goes_on {t : State} (ht : t = requeueAll c [e] (relayed c e s)) (hopen : openClip s = some k)
    (hready : (card (otherCard c) s).state = .ready) (hroom : blocksFor e.length ≤ (card (otherCard c) s).free)
    (hqueue : (card (otherCard c) s).queue.length < 512) (hmarks : k.marks.length < 16) :
    let first := (card (otherCard c) s).committed + (card (otherCard c) s).reserved
    isTarget c t = false ∧ isTarget (otherCard c) t = true ∧ (card (otherCard c) t).state = .active
      ∧ (card (otherCard c) t).queue = (card (otherCard c) s).queue ++ [⟨e, first, blocksFor e.length⟩]
      ∧ (card (otherCard c) t).reserved = (card (otherCard c) s).reserved + blocksFor e.length
      ∧ openClip t = some { k with spans := k.spans ++ [⟨otherCard c, some first, 0⟩]
                                   marks := k.marks ++ [⟨.relay, k.frames - 1, none⟩] }
      ∧ t.recorder.state = s.recorder.state ∧ t.recorder.phase = s.recorder.phase
      ∧ t.recorder.pendingStop = s.recorder.pendingStop ∧ t.unit = s.unit := by
  intro first
  have hcard := card_relayed_other hopen c e hready
  obtain ⟨htarget, htarget'⟩ := isTarget_relayed hopen c e
  obtain ⟨clips, hrelayed⟩ := relayed_recorder hopen c e
  rw [requeueAll_of_room hopen hready hroom hqueue, startNext] at ht
  obtain ⟨clips', es, hrecorder⟩ : ∃ clips es, t.recorder = { (relayed c e s).recorder with
      clips := clips, essences := es } := by
    rw [ht, setCard_recorder, extentTaken_recorder]
    exact ⟨_, _, rfl⟩
  have hqueued : card (otherCard c) t = (card (otherCard c) (extentTaken (otherCard c) e (relayed c e s))).serveLink := by
    rw [ht, card_setCard_same]
  rw [serveLink_frame, extentTaken, card_setCard_same, hcard] at hqueued
  have hclip : openClip t = some ((k.relayedTo (otherCard c)).firstOn (otherCard c) first) := by
    have htaken := openClip_extentTaken (openClip_relayed hopen c e) (otherCard c) e
    rw [hcard] at htaken
    rw [← htaken, ht]
    exact openClip_congr (by rw [setCard_recorder])
  have htargets (d : CardSlot) : isTarget d t = isTarget d (relayed c e s) := by
    cases d <;> simp only [isTarget, hrecorder]
  refine ⟨(htargets c).trans htarget, (htargets _).trans htarget', by rw [hqueued], by rw [hqueued], by rw [hqueued],
    ?_, ?_, ?_, ?_, ?_⟩
  · rw [hclip, relayedTo_firstOn hmarks]
  · rw [hrecorder, hrelayed]
  · rw [hrecorder, hrelayed]
  · rw [hrecorder, hrelayed]
  · rw [ht, setCard_unit, extentTaken, setCard_unit]
    exact relayed_unit hopen c e

theorem relayRefused_recorder (hopen : openClip s = some k) (c : CardSlot) (e : Extent) : ∃ clips,
    (relayRefused c e s).recorder = { s.recorder with
      targetA := false, targetB := false, clips := clips
      essences := (setSide c .failed e.slot e.place s).recorder.essences } := by
  obtain ⟨clips, h⟩ := relayed_recorder hopen c e
  refine ⟨clips, ?_⟩
  cases c <;> (simp only [relayRefused, setTarget, otherCard, checkPoint_recorder, setCardState_recorder, h]; rfl)

theorem relayRefused_unit (hopen : openClip s = some k) (c : CardSlot) (e : Extent) :
    (relayRefused c e s).unit = s.unit := by
  rw [relayRefused, setTarget_unit, checkPoint_unit, setCardState_unit, relayed_unit hopen]

theorem openClip_relayRefused (hopen : openClip s = some k) (c : CardSlot) (e : Extent) :
    openClip (relayRefused c e s) = some (k.relayedTo (otherCard c)) := by
  rw [relayRefused, openClip_setTarget, ← openClip_relayed hopen c e]
  exact openClip_congr (by rw [checkPoint_recorder, setCardState_recorder])

/-- A card without room is FULL, or PROTECTED where it is idle and its protect level is asserted (R99, R101). -/
theorem card_relayRefused (hopen : openClip s = some k) (c : CardSlot) (e : Extent)
    (hready : (card (otherCard c) s).state = .ready) : ∃ st,
    card (otherCard c) (relayRefused c e s) = { card (otherCard c) s with state := st }
      ∧ (st = .full ∨ (st = .protect ∧ isProtected (otherCard c) s = true)) := by
  have hcard : card (otherCard c) (relayRefused c e s)
      = { card (otherCard c) s with
          state := checkedState (otherCard c) (setCardState (otherCard c) .full (relayed c e s)) } := by
    rw [relayRefused, card_setTarget, card_checkPoint, card_setCardState, card_relayed_other hopen c e hready]
  have hprotected : isProtected (otherCard c) (relayed c e s) = isProtected (otherCard c) s :=
    isProtected_congr _ (lines_of_outside (by simp [relayed]))
  refine ⟨_, hcard, ?_⟩
  rw [checkedState_open _ _ (.inr rfl), hprotected]
  split
  next h => exact .inr ⟨rfl, h.1⟩
  next => exact .inl rfl

/-- An extent that has failed on the card already is settled by its other side all the same. -/
theorem failSide_failed {t : State}
    (hes : t.recorder.essences = (setSide c .failed e.slot e.place s).recorder.essences) (hunit : t.unit = s.unit) :
    returnSettled c e s (failSide c e t) := by
  intro n x hsole hslot hplace hout hside hrunning
  obtain ⟨hout', hclip⟩ := withSide_outcome c .failed x
  have hsole' : (setSide c .failed e.slot e.place s).recorder.essences = [⟨n, 1, [x.withSide c .failed]⟩] := by
    rw [hslot, hplace, setSide_sole hsole]
    rfl
  have hsettled := failSide_settled (s := setSide c .failed e.slot e.place s) hes hunit n _ hsole' hslot hplace
    (hout'.trans hout) (by rw [withSide_other]; exact hside) hrunning
  rw [withSide_other, hclip] at hsettled
  obtain ⟨hended, hanswered⟩ := hsettled
  refine ⟨hended, hanswered.trans ?_⟩
  split <;> rfl

/-- The relay onto a card without room: the extent is settled, the clip DEGRADED, and a stop pending. -/
theorem requeueAll_stops {t : State} (ht : t = requeueAll c [e] (relayed c e s)) (hopen : openClip s = some k)
    (hready : (card (otherCard c) s).state = .ready) (hroom : (card (otherCard c) s).free < blocksFor e.length)
    (hmarks : k.marks.length < 16) (hst : s.recorder.state = .recording) (hpending : s.recorder.pendingStop = none) :
    isTarget c t = false ∧ isTarget (otherCard c) t = false
      ∧ ((card (otherCard c) t).state = .full
        ∨ ((card (otherCard c) t).state = .protect ∧ isProtected (otherCard c) s = true))
      ∧ (card (otherCard c) t).queue = (card (otherCard c) s).queue
      ∧ (card (otherCard c) t).reserved = (card (otherCard c) s).reserved
      ∧ openClip t = some (Clip.degradedBy c { k with
          spans := k.spans ++ [⟨otherCard c, none, 0⟩], marks := k.marks ++ [⟨.relay, k.frames - 1, none⟩] })
      ∧ t.recorder.state = .recording ∧ t.recorder.phase = s.recorder.phase
      ∧ t.recorder.pendingStop = some .mediaFull ∧ returnSettled c e s t := by
  obtain ⟨clips, hrefused⟩ := relayRefused_recorder hopen c e
  obtain ⟨st, hcard, hst'⟩ := card_relayRefused hopen c e hready
  have hframe := failSide_frame c e (relayRefused c e s)
  have hopen' : openClip (failSide c e (relayRefused c e s)) = some (k.relayedTo (otherCard c)) := by
    rw [hframe, openClip_withEssences, openClip_relayRefused hopen]
  have hstate : (failSide c e (relayRefused c e s)).recorder.state = .recording
      ∧ (failSide c e (relayRefused c e s)).recorder.pendingStop = none := by
    rw [hframe, withEssences_recorder, hrefused]
    exact ⟨hst, hpending⟩
  rw [requeueAll_of_noRoom hopen hready hroom] at ht
  obtain ⟨hrecording, hnone⟩ := hstate
  obtain ⟨clips', hpends, hclip⟩ := stopGiven_degrade hopen' hrecording hnone c .mediaFull
  rw [← ht] at hpends hclip
  have htargets (d : CardSlot) : isTarget d t = false := by
    have h : isTarget d t = isTarget d (failSide c e (relayRefused c e s)) := by rw [hpends]; cases d <;> rfl
    rw [h, hframe, isTarget_withEssences]
    cases d <;> simp only [isTarget, hrefused]
  have hcard' : card (otherCard c) t = { card (otherCard c) s with state := st } := by
    rw [← hcard, ← card_failSide _ c e (relayRefused c e s), hpends]
    exact card_congr _ rfl rfl
  have hrecorder : t.recorder = { (failSide c e (relayRefused c e s)).recorder with
      pendingStop := some .mediaFull, clips := clips' } := by rw [hpends]
  refine ⟨htargets c, htargets _, by rw [hcard']; exact hst', by rw [hcard'], by rw [hcard'],
    relayedTo_of_room hmarks (otherCard c) ▸ hclip, by rw [hrecorder]; exact hrecording, ?_, by rw [hrecorder], ?_⟩
  · rw [hrecorder, hframe, withEssences_recorder, hrefused]
  · have hsettled := failSide_failed (c := c) (e := e) (s := s) (t := relayRefused c e s) (by rw [hrefused])
      (relayRefused_unit hopen c e)
    exact returnSettled_congr hsettled (by rw [hrecorder]) (by rw [hpends])

end

/-! ### The loss of a card (R122, R123) -/

section
variable {s : State} {c : CardSlot} {e : Extent} {k : Clip} {l : List Extent}

theorem drainIfDone_of_phase (h : s.recorder.phase ≠ some .draining) : drainIfDone s = s := by
  unfold drainIfDone
  split
  · simp [h]
  · rfl

theorem drainIfDone_of_queued (hopen : openClip s = some k) (h : clipQueued k.serial s = true) : drainIfDone s = s := by
  simp [drainIfDone, hopen, h]

theorem drainIfDone_of_none (hopen : openClip s = none) : drainIfDone s = s := by simp only [drainIfDone, hopen]

theorem cardLost_of_none (hopen : openClip s = none) : cardLost c l s = failAll c l s := by
  have hframe := failAll_frame c l s
  have hopen' : openClip (failAll c l s) = none := by rw [hframe]; exact hopen
  simp [cardLost, lostElsewhere, hopen, hopen', drainIfDone_of_none]

/-- A card that is no part of the clip degrades it all the same (R122, case 1; log 21). -/
theorem cardLost_elsewhere (hopen : openClip s = some k) (htarget : isTarget c s = false)
    (hphase : s.recorder.phase ≠ some .draining) : cardLost c l s = degrade c (failAll c l s) := by
  have hframe := failAll_frame c l s
  have hopen' : openClip (failAll c l s) = some k := by rw [hframe]; exact hopen
  have hphase' : (degrade c (failAll c l s)).recorder.phase ≠ some .draining := by
    rw [degrade_eq c hopen', hframe]; exact hphase
  simp [cardLost, lostElsewhere, htarget, hopen', drainIfDone_of_phase hphase']

theorem cardLost_of_relay (hopen : openClip s = some k) (htarget : isTarget c s = true)
    (hmirror : s.recorder.mirror = false) : cardLost c l s = drainIfDone (lostInRelay c l s) := by
  simp [cardLost, hopen, htarget, hmirror]

theorem cardLost_of_mirror (hopen : openClip s = some k) (htarget : isTarget c s = true)
    (hmirror : s.recorder.mirror = true) : cardLost c l s = drainIfDone (lostInMirror c l s) := by
  simp [cardLost, hopen, htarget, hmirror]

/-- A MIRROR clip that keeps the other target goes on DEGRADED (R123). -/
theorem cardLost_mirror_goes_on (hopen : openClip s = some k) (htarget : isTarget c s = true)
    (hmirror : s.recorder.mirror = true) (hother : isTarget (otherCard c) s = true)
    (hphase : s.recorder.phase ≠ some .draining) :
    cardLost c l s = failAll c l (degrade c (setTarget c false s)) := by
  have hopen' : openClip (setTarget c false s) = some k := (openClip_setTarget c false).trans hopen
  have hphase' : (failAll c l (degrade c (setTarget c false s))).recorder.phase ≠ some .draining := by
    rw [failAll_frame, degrade_eq c hopen', withEssences_recorder, updateOpen, setTarget_frame]
    exact hphase
  rw [cardLost_of_mirror hopen htarget hmirror, lostInMirror]
  simp [hasTarget_setTarget, hother, drainIfDone_of_phase hphase']

theorem canRelay_eq (hopen : openClip s = some k) (c : CardSlot) :
    canRelay c s = true ↔ (card (otherCard c) s).state = .ready ∧ k.spans.length < 8 := by
  simp [canRelay, spanCount, hopen]

/-- The loss of a target card in RELAY with one extent returned: a relay or the end of the clip (R122). -/
theorem cardLost_lostByRelay (hopen : openClip s = some k) (htarget : isTarget c s = true)
    (hmirror : s.recorder.mirror = false) (hphase : s.recorder.phase = none) (hst : s.recorder.state = .recording) :
    lostByRelay c e k s (cardLost c [e] s) := by
  rw [cardLost_of_relay hopen htarget hmirror]
  have hgoes {t : State} (h : t.recorder.phase = none) : drainIfDone t = t :=
    drainIfDone_of_phase (by rw [h]; nofun)
  refine ⟨fun hready hspans hroom hqueue hmarks => ?_, fun hready hspans hroom hmarks hpending => ?_, fun hstuck => ?_⟩
  · have hrelays := lostInRelay_relays (e := e) hphase ((canRelay_eq hopen c).2 ⟨hready, hspans⟩)
    obtain ⟨hc, hd, hactive, hq, hreserved, hclip, hstate, hph, hstop, hunit⟩ :=
      requeueAll_goes_on hrelays hopen hready hroom hqueue hmarks
    rw [hgoes (hph.trans hphase)]
    refine ⟨hc, hd, hactive, hq, hreserved, hclip, fun hm => ?_, hstate.trans hst, hstop, hunit⟩
    rw [hrelays]
    exact (keeps_requeueAll (Keeps.refl _) c [e]).isLatched_of _ (isLatched_relayed hm c e)
  · have hrelays := lostInRelay_relays (e := e) hphase ((canRelay_eq hopen c).2 ⟨hready, hspans⟩)
    obtain ⟨hc, hd, hleft, hq, hreserved, hclip, hstate, hph, hstop, hsettled⟩ :=
      requeueAll_stops hrelays hopen hready hroom hmarks hst hpending
    rw [hgoes (hph.trans hphase)]
    refine ⟨hc, hd, hleft, hq, hreserved, hclip, fun hm => ?_, hstate, hstop, hsettled⟩
    rw [hrelays]
    exact (keeps_requeueAll (Keeps.refl _) c [e]).isLatched_of _ (isLatched_relayed hm c e)
  · have hno : canRelay c s = false := by
      rw [Bool.eq_false_iff, ne_eq, canRelay_eq hopen]
      rintro ⟨hready, hspans⟩
      exact hstuck.elim (· hready) (Nat.not_le.2 hspans)
    have hloses : lostInRelay c [e] s = loseClip c [e] s := by simp [lostInRelay, hphase, hno]
    have hbroken := loseClip_broken (c := c) hopen (by rw [hst]; nofun) [e]
    have ⟨_, hnone, _⟩ := hbroken
    rw [hloses, drainIfDone_of_none hnone]
    exact ⟨hbroken, loseClip_returnSettled hopen⟩

/-- The loss of the last target card in MIRROR with one extent returned breaks the clip (R123). -/
theorem cardLost_mirror_breaks (hopen : openClip s = some k) (htarget : isTarget c s = true)
    (hmirror : s.recorder.mirror = true) (hother : isTarget (otherCard c) s = false)
    (hphase : s.recorder.phase = none) (hst : s.recorder.state = .recording) :
    clipBroken k s (cardLost c [e] s)
      ∧ (s.recorder.stopReq = none → s.recorder.pendingStart = none → returnSettled c e s (cardLost c [e] s)) := by
  have hopen' : openClip (setTarget c false s) = some k := (openClip_setTarget c false).trans hopen
  have hphase' : (setTarget c false s).recorder.phase = none := by rw [setTarget_frame]; exact hphase
  have hloses : lostInMirror c [e] s = loseClip c [e] (setTarget c false s) := by
    simp [lostInMirror, hasTarget_setTarget, hother, hphase']
  have hbroken : clipBroken k s (loseClip c [e] (setTarget c false s)) := by
    refine clipBroken_congr (loseClip_broken hopen' ?_ [e]) ?_ ?_ ?_ fun hempty => ⟨?_, setTarget_unit c false⟩
    · rw [setTarget_frame, hst]; nofun
    · cases c <;> rfl
    · rw [setTarget_frame]
    · rw [setTarget_frame]
    · rw [setTarget_frame]; exact hempty
  have ⟨_, hnone, _⟩ := hbroken
  rw [cardLost_of_mirror hopen htarget hmirror, hloses, drainIfDone_of_none hnone]
  refine ⟨hbroken, fun hstop hstart => ?_⟩
  refine returnSettled_before (loseClip_returnSettled hopen' ?_ ?_) (by rw [setTarget_frame]) (setTarget_unit c false)
  · rw [setTarget_frame]; exact hstop
  · rw [setTarget_frame]; exact hstart

/-- In DRAINING a target card that leaves the clip alone and returns nothing is given up, while an extent of the clip is
still queued (R122, R123). -/
theorem cardLost_draining (hopen : openClip s = some k) (htarget : isTarget c s = true)
    (hother : isTarget (otherCard c) s = false) (hphase : s.recorder.phase = some .draining)
    (hqueued : clipQueued k.serial s = true) : cardLost c [] s = setTarget c false s := by
  have hphase' : (setTarget c false s).recorder.phase = some .draining := by rw [setTarget_frame]; exact hphase
  have hqueued' : clipQueued k.serial (setTarget c false s) = true := by
    rw [clipQueued, setTarget_frame]; exact hqueued
  have hopen' : openClip (setTarget c false s) = some k := (openClip_setTarget c false).trans hopen
  have hstays := drainIfDone_of_queued hopen' hqueued'
  cases hmirror : s.recorder.mirror with
  | false => rw [cardLost_of_relay hopen htarget hmirror]; simp [lostInRelay, hphase, hstays]
  | true =>
    rw [cardLost_of_mirror hopen htarget hmirror]
    simp [lostInMirror, hasTarget_setTarget, hother, hphase', hstays]

theorem cardLost_indexing_relay (hopen : openClip s = some k) (htarget : isTarget c s = true)
    (hmirror : s.recorder.mirror = false) (hphase : s.recorder.phase = some .indexing) : cardLost c [] s = s := by
  have hstays : drainIfDone s = s := drainIfDone_of_phase (by rw [hphase]; nofun)
  rw [cardLost_of_relay hopen htarget hmirror]
  simp [lostInRelay, hphase, failAll, hstays]

theorem cardLost_indexing_mirror (hopen : openClip s = some k) (htarget : isTarget c s = true)
    (hmirror : s.recorder.mirror = true) (hother : isTarget (otherCard c) s = false)
    (hphase : s.recorder.phase = some .indexing) : cardLost c [] s = setTarget c false s := by
  have hphase' : (setTarget c false s).recorder.phase = some .indexing := by rw [setTarget_frame]; exact hphase
  have hstays : drainIfDone (setTarget c false s) = setTarget c false s :=
    drainIfDone_of_phase (by rw [hphase']; nofun)
  rw [cardLost_of_mirror hopen htarget hmirror]
  simp [lostInMirror, hasTarget_setTarget, hother, hphase', hstays]

/-- The clip that a card leaves in INDEXING: DEGRADED where it keeps the other target in MIRROR, and where the card was
no target (R122, R123; log 21). -/
def leftInIndexing (c : CardSlot) (s : State) (k : Clip) : Clip :=
  if isTarget c s = false ∨ (s.recorder.mirror = true ∧ isTarget (otherCard c) s = true) then k.degradedBy c else k

/-- In INDEXING the loss of a card changes no more than the target cards and the clip. -/
theorem cardLost_indexing (hopen : openClip s = some k) (hphase : s.recorder.phase = some .indexing) :
    ∃ targetA targetB clips, cardLost c [] s = { s with recorder := { s.recorder with
        targetA := targetA, targetB := targetB, clips := clips } }
      ∧ isTarget (otherCard c) (cardLost c [] s) = isTarget (otherCard c) s
      ∧ openClip (cardLost c [] s) = some (leftInIndexing c s k) := by
  have hphase' : s.recorder.phase ≠ some .draining := by rw [hphase]; nofun
  have hdegraded (u : State) (hopen' : openClip u = some k) : openClip (degrade c u) = some (k.degradedBy c) := by
    rw [degrade_eq c hopen', openClip_updateOpen (keepsOpen_degradedBy c), hopen']
    rfl
  have hgiven : openClip (setTarget c false s) = some k := (openClip_setTarget c false).trans hopen
  unfold leftInIndexing
  cases htarget : isTarget c s with
  | false =>
    have hlost : cardLost c [] s = degrade c s := cardLost_elsewhere hopen htarget hphase'
    rw [hlost, hdegraded s hopen, degrade_eq c hopen]
    exact ⟨_, _, _, rfl, isTarget_updateOpen .., by simp⟩
  | true =>
    cases hmirror : s.recorder.mirror with
    | false =>
      rw [cardLost_indexing_relay hopen htarget hmirror hphase]
      exact ⟨_, _, _, rfl, rfl, by simp [hopen]⟩
    | true =>
      cases hother : isTarget (otherCard c) s with
      | true =>
        have hlost : cardLost c [] s = degrade c (setTarget c false s) :=
          cardLost_mirror_goes_on hopen htarget hmirror hother hphase'
        rw [hlost, hdegraded _ hgiven, degrade_eq c hgiven, isTarget_updateOpen, isTarget_setTarget_other, hother]
        refine ⟨(setTarget c false s).recorder.targetA, (setTarget c false s).recorder.targetB,
          (updateOpen (Clip.degradedBy c) s).recorder.clips, ?_, rfl, by simp⟩
        cases c <;> rfl
      | false =>
        rw [cardLost_indexing_mirror hopen htarget hmirror hother hphase, hgiven, isTarget_setTarget_other, hother]
        refine ⟨(setTarget c false s).recorder.targetA, (setTarget c false s).recorder.targetB, s.recorder.clips, ?_,
          rfl, by simp⟩
        cases c <;> rfl

/-- The loss of a card outside the clip, or of one of two MIRROR targets: the clip goes on, DEGRADED, and the state and
the cards stay as they are (R122, case 1; R123, case 1). -/
def clipGoesOn (c : CardSlot) (s t : State) : Prop :=
  t.recorder.state = s.recorder.state ∧ (∀ d, card d t = card d s)
    ∧ ∀ k, openClip s = some k → openClip t = some (k.degradedBy c)
      ∧ isTarget c t = false ∧ isTarget (otherCard c) t = isTarget (otherCard c) s

theorem clipGoesOn_failAll {t : State} (h : clipGoesOn c s t) (l : List Extent) : clipGoesOn c s (failAll c l t) := by
  obtain ⟨hst, hcards, hclip⟩ := h
  refine ⟨by rw [failAll_frame]; exact hst, fun d => (card_failAll ..).trans (hcards d), ?_⟩
  rw [failAll_frame, openClip_withEssences, isTarget_withEssences, isTarget_withEssences]
  exact hclip

theorem clipGoesOn_degrade {t : State} (hopen : openClip s = some k) (hst : t.recorder.state = s.recorder.state)
    (hcards : ∀ d, card d t = card d s) (hclip : openClip t = some k) (htarget : isTarget c t = false)
    (hother : isTarget (otherCard c) t = isTarget (otherCard c) s) : clipGoesOn c s (degrade c t) := by
  rw [degrade_eq c hclip]
  refine ⟨hst, fun d => (card_updateOpen d).trans (hcards d), fun k' hk' => ?_⟩
  rw [isTarget_updateOpen, isTarget_updateOpen, openClip_updateOpen (keepsOpen_degradedBy c), hclip]
  cases hopen.symm.trans hk'
  exact ⟨rfl, htarget, hother⟩

/-- The loss of a card that is no part of the clip, if there is one. -/
theorem cardLost_elsewhere_goes_on (hphase : s.recorder.phase ≠ some .draining)
    (h : openClip s = none ∨ isTarget c s = false) :
    clipGoesOn c s (cardLost c l s) ∧ ∀ e, l = [e] → extentReturned c e s (cardLost c l s) := by
  have hframe := failAll_frame c l s
  cases hopen : openClip s with
  | none =>
    rw [cardLost_of_none hopen]
    refine ⟨⟨by rw [hframe]; rfl, fun d => card_failAll .., by rw [hopen]; nofun⟩, fun e hl => ?_⟩
    subst hl
    exact failSide_returned rfl rfl
  | some k =>
    have htarget := h.resolve_left (by rw [hopen]; nofun)
    have hopen' : openClip (failAll c l s) = some k := by rw [hframe]; exact hopen
    rw [cardLost_elsewhere hopen htarget hphase]
    refine ⟨clipGoesOn_degrade hopen (by rw [hframe]; rfl) (fun d => card_failAll ..) hopen' ?_ ?_, fun e hl => ?_⟩
    · rw [hframe, isTarget_withEssences, htarget]
    · rw [hframe, isTarget_withEssences]
    · subst hl
      rw [degrade_eq c hopen']
      exact extentReturned_congr (failSide_returned rfl rfl) rfl rfl

/-- The loss of one of the two targets of a MIRROR clip. -/
theorem cardLost_mirror_clipGoesOn (hopen : openClip s = some k) (htarget : isTarget c s = true)
    (hmirror : s.recorder.mirror = true) (hother : isTarget (otherCard c) s = true)
    (hphase : s.recorder.phase ≠ some .draining) :
    clipGoesOn c s (cardLost c l s) ∧ ∀ e, l = [e] → extentReturned c e s (cardLost c l s) := by
  have hgiven : openClip (setTarget c false s) = some k := (openClip_setTarget c false).trans hopen
  rw [cardLost_mirror_goes_on hopen htarget hmirror hother hphase]
  refine ⟨clipGoesOn_failAll (clipGoesOn_degrade hopen ?_ (fun d => card_setTarget ..) hgiven ?_ ?_) l, fun e hl => ?_⟩
  · rw [setTarget_frame]
  · rw [isTarget_setTarget]
  · rw [isTarget_setTarget_other]
  · subst hl
    refine failSide_returned ?_ ?_
    · rw [degrade_eq c hgiven, updateOpen, setTarget_frame]
    · rw [degrade_eq c hgiven, updateOpen, setTarget_unit]

end

end Sys2Proof.Machine
end

section
/-! PROOFS. The index answers, and the clip that the last of them closes (R125). -/
namespace Sys2Proof.Machine

/-! ### The record engine after a close (R111, R119, R125) -/

section
variable {s t : State} {k : Clip}

theorem keepHeld_frame (l : List Extent) (s : State) : ∃ held es u, keepHeld l s
    = withEssences es u { s with recorder := { s.recorder with held := held } } := by
  unfold keepHeld
  split
  · exact ⟨_, _, _, discardAll_frame _ _⟩
  · exact ⟨_, _, _, discardAll_frame _ _⟩

theorem keepHeld_nil (s : State) : keepHeld [] s = dropHeld s := by
  unfold keepHeld
  split <;> rfl

theorem closeToIdle_recorder (s : State) : ∃ st p held es, (closeToIdle s).recorder = { s.recorder with
    state := st, pulse := p, held := held, after := [], essences := es } := by
  unfold closeToIdle
  obtain ⟨held, es, u, h⟩ := keepHeld_frame (setRecState (idleState s) s).recorder.after
    { setRecState (idleState s) s with recorder := { (setRecState (idleState s) s).recorder with after := [] } }
  dsimp only
  rw [h, withEssences_recorder, setRecState_frame]
  exact ⟨_, _, _, _, rfl⟩

theorem card_closeToIdle (d : CardSlot) (s : State) : card d (closeToIdle s) = card d s := by
  unfold closeToIdle
  obtain ⟨held, es, u, h⟩ := keepHeld_frame (setRecState (idleState s) s).recorder.after
    { setRecState (idleState s) s with recorder := { (setRecState (idleState s) s).recorder with after := [] } }
  dsimp only
  rw [h, card_withEssences, ← card_setRecState d (idleState s) s]
  exact card_congr d rfl rfl

theorem closeToIdle_of_nil (h : s.recorder.after = []) :
    closeToIdle s = dropHeld (setRecState (idleState s) s) := by
  have hafter : (setRecState (idleState s) s).recorder.after = [] := by rw [setRecState_frame]; exact h
  unfold closeToIdle
  dsimp only
  rw [hafter, keepHeld_nil, dropHeld, dropHeld, ← hafter]

theorem idleState_ne_stopping (s : State) : idleState s ≠ .stopping := by
  unfold idleState
  split <;> nofun

theorem isLatched_closeToIdle (hst : s.recorder.state = .stopping) (hm : isMuted .recState s = false) :
    isLatched .recState (closeToIdle s) = true := by
  have hmoved : s.recorder.state ≠ idleState s := by rw [hst]; exact (idleState_ne_stopping s).symm
  have hset := isLatched_setRecState hmoved hm
  have hkeeps : Keeps (setRecState (idleState s) s) (closeToIdle s) := by
    unfold closeToIdle
    refine keeps_keepHeld ?_ _
    exact Keeps.refl (setRecState (idleState s) s)
  exact hkeeps.isLatched_of _ hset

/-- Whatever the engine does after a close, it clears the restart flag and the after-stop list, and leaves the clips,
the target cards, the stopping phase and the stop request as they are. -/
theorem afterClose_recorder (s : State) : ∃ st p start held es, (afterClose s).recorder = { s.recorder with
    state := st, pulse := p, restart := false, pendingStart := start, held := held, after := [], essences := es } := by
  unfold afterClose
  split
  · dsimp only
    split
    · obtain ⟨st, p, held, es, h⟩ := closeToIdle_recorder
        (endStart ‹_› noStart { s with recorder := { s.recorder with restart := false } })
      rw [h, endStart_recorder]
      exact ⟨_, _, _, _, _, rfl⟩
    · rw [setRecState_frame]
      exact ⟨_, _, _, _, _, rfl⟩
  next hrestart =>
    obtain ⟨st, p, held, es, h⟩ := closeToIdle_recorder s
    refine ⟨st, p, s.recorder.pendingStart, held, es, ?_⟩
    rw [h, ← Bool.eq_false_iff.2 hrestart]

theorem card_afterClose (d : CardSlot) (s : State) : card d (afterClose s) = card d s := by
  unfold afterClose
  split
  · dsimp only
    split
    · rw [card_closeToIdle, card_endStart]
      exact card_congr d rfl rfl
    · refine (card_congr d rfl rfl).trans ((card_setRecState d .arming _).trans (card_congr d rfl rfl))
  · exact card_closeToIdle d s

theorem isLatched_afterClose (hst : s.recorder.state = .stopping) (hm : isMuted .recState s = false) :
    isLatched .recState (afterClose s) = true := by
  unfold afterClose
  split
  · dsimp only
    split
    · refine isLatched_closeToIdle (by rw [endStart_recorder]; exact hst) ?_
      rw [endStart_frame]; exact hm
    · exact isLatched_setRecState (s := { s with recorder := { s.recorder with restart := false } })
        (by rw [hst]; nofun) hm
  · exact isLatched_closeToIdle hst hm

theorem afterClose_idle (hrestart : s.recorder.restart = false) (hafter : s.recorder.after = []) :
    afterClose s = dropHeld (setRecState (idleState s) s) := by
  rw [← closeToIdle_of_nil hafter]
  simp [afterClose, hrestart]

/-- A restart that finds a READY card goes to ARMING with the after-stop list as the held list (R125, step 6). -/
theorem afterClose_restarts (hrestart : s.recorder.restart = true) (hpower : s.recorder.powerEmpty = false)
    {d : CardSlot} (hready : (card d s).state = .ready) : ∃ p, (afterClose s).recorder = { s.recorder with
      state := .arming, pulse := p, restart := false, held := s.recorder.after, after := [] } := by
  have hnone : restartRefusal { s with recorder := { s.recorder with restart := false } } = none := by
    have hcard : s.cardA.state = .ready ∨ s.cardB.state = .ready := by
      cases d
      · exact .inl hready
      · exact .inr hready
    obtain h | h := hcard <;> simp [restartRefusal, hpower, h]
  unfold afterClose
  simp only [hrestart, if_true, hnone]
  rw [setRecState_frame]
  exact ⟨_, rfl⟩

end

/-! ### The clip closes (R125) -/

section
variable {s t : State} {k : Clip}

/-- The record of a closed clip, with its end label. -/
def closedClip (k : Clip) (s : State) : Clip := { k with state := .closed, endLabel := some (endLabelOf k s) }

/-- The state of a closed clip before the record engine goes on. -/
def clipShut (k : Clip) (s : State) : State :=
  let u := latch .clipClosed (updateOpen (fun _ => closedClip k s) (dropTargets s))
  { u with recorder := { u.recorder with phase := none } }

theorem closeClip_eq (hopen : openClip s = some k) : closeClip s
    = afterClose (endStopRequest .ok (stopResult (closedClip k s)) (clipShut k s)) := by
  unfold closeClip
  rw [hopen]
  rfl

theorem clipShut_recorder (k : Clip) (s : State) : (clipShut k s).recorder = { s.recorder with
    targetA := false, targetB := false, phase := none
    clips := (updateOpen (fun _ => closedClip k s) s).recorder.clips } := by
  have hrecorder : (clipShut k s).recorder = { (dropTargets s).recorder with
      phase := none, clips := (updateOpen (fun _ => closedClip k s) (dropTargets s)).recorder.clips } := rfl
  rw [hrecorder, updateOpen, dropTargets_recorder]
  rfl

theorem clipShut_unit (k : Clip) (s : State) : (clipShut k s).unit = s.unit :=
  (dropTargets_unit s ▸ rfl : (clipShut k s).unit = s.unit)

theorem card_clipShut (c : CardSlot) (k : Clip) (s : State) : card c (clipShut k s)
    = { card c s with state := if isTarget c s = true then deselectedState c s else (card c s).state } := by
  rw [← card_dropTargets]
  exact card_congr c rfl rfl

theorem keeps_clipShut (k : Clip) (s : State) : Keeps s (clipShut k s) := by
  have hdropped : Keeps s (dropTargets s) := keeps_dropTarget (keeps_dropTarget (Keeps.refl s) _) _
  exact keeps_latch (keeps_updateOpen hdropped fun _ => closedClip k s) .clipClosed

theorem isLatched_clipShut (hm : isMuted .clipClosed s = false) : isLatched .clipClosed (clipShut k s) = true := by
  have hdropped : Keeps s (dropTargets s) := keeps_dropTarget (keeps_dropTarget (Keeps.refl s) _) _
  exact isLatched_latch (((keeps_updateOpen hdropped _).isMuted_eq .clipClosed).trans hm)

theorem clipShut_clock (k : Clip) (s : State) : (clipShut k s).clock = s.clock := by
  have hdropped : (dropTargets s).clock = s.clock := clock_of_outside (by simp [dropTargets])
  exact hdropped

theorem card_closeClip (hopen : openClip s = some k) (c : CardSlot) : card c (closeClip s)
    = { card c s with state := if isTarget c s = true then deselectedState c s else (card c s).state } := by
  rw [closeClip_eq hopen, card_afterClose, card_endStopRequest, card_clipShut]

theorem idleState_eq (s : State) :
    idleState s = if 0 < s.recorder.limit ∧ s.clock.mode = .freeRun then .prerec else .standby := by
  simp [idleState]

/-- The clip `k` closes: it is CLOSED with its end label, no card is a target, CLIP_CLOSED and REC_STATE latch, and the
engine goes to the idle state with the stop request answered OK, or with the restart flag and a READY card to ARMING
(R125). -/
def clipCloses (k : Clip) (s t : State) : Prop :=
  openClip t = none ∧ t.recorder.phase = none ∧ closedClip k s ∈ t.recorder.clips
    ∧ t.recorder.targetA = false ∧ t.recorder.targetB = false
    ∧ (isMuted .clipClosed s = false → isLatched .clipClosed t = true)
    ∧ (isMuted .recState s = false → isLatched .recState t = true)
    ∧ (s.recorder.restart = false → s.recorder.after = [] →
        t.recorder.state = idleState s ∧ t.recorder.held = [] ∧ t.recorder.pendingStart = s.recorder.pendingStart
        ∧ (s.recorder.stopReq = none → t.unit = s.unit)
        ∧ ∀ m, s.recorder.stopReq = some m → s.unit.slots[m].state = .running → t.recorder.stopReq = none
          ∧ t.unit = (answered m .ok (stopResult (closedClip k s)) s).unit)
    ∧ (s.recorder.restart = true → s.recorder.powerEmpty = false → (∃ d, (card d t).state = .ready) →
        t.recorder.state = .arming ∧ t.recorder.restart = false ∧ t.recorder.held = s.recorder.after
        ∧ t.recorder.after = [] ∧ t.recorder.pendingStart = s.recorder.pendingStart)

theorem closeClip_closes (hopen : openClip s = some k) (hst : s.recorder.state = .stopping) :
    clipCloses k s (closeClip s) := by
  have hkeeps := keeps_endStopRequest (keeps_clipShut k s) .ok (stopResult (closedClip k s))
  have hended := endStopRequest_recorder .ok (stopResult (closedClip k s)) (clipShut k s)
  rw [clipShut_recorder] at hended
  have hunit (hstop : s.recorder.stopReq = none) :
      (endStopRequest .ok (stopResult (closedClip k s)) (clipShut k s)).unit = s.unit := by
    rw [endStopRequest_of_none (by rw [clipShut_recorder]; exact hstop), clipShut_unit]
  have hanswered {m : Fin 32} (hstop : s.recorder.stopReq = some m) (hrunning : s.unit.slots[m].state = .running) :
      (endStopRequest .ok (stopResult (closedClip k s)) (clipShut k s)).unit
        = (answered m .ok (stopResult (closedClip k s)) s).unit := by
    rw [endStopRequest_answered (m := m) (by rw [clipShut_recorder]; exact hstop)
      (by rw [clipShut_unit]; exact hrunning) _ (stopResult_length _), answered_unit_congr (clipShut_unit k s)]
  have hclock : (endStopRequest .ok (stopResult (closedClip k s)) (clipShut k s)).clock = s.clock := by
    rw [endStopRequest_frame]; exact clipShut_clock k s
  have hshut (hm : isMuted .clipClosed s = false) :
      isLatched .clipClosed (endStopRequest .ok (stopResult (closedClip k s)) (clipShut k s)) = true :=
    (keeps_endStopRequest (Keeps.refl _) _ _).isLatched_of _ (isLatched_clipShut hm)
  rw [closeClip_eq hopen]
  generalize endStopRequest .ok (stopResult (closedClip k s)) (clipShut k s) = u at *
  have hidle : idleState u = idleState s := by rw [idleState, idleState, hended, hclock]
  obtain ⟨st, p, start, held, es, hrecorder⟩ := afterClose_recorder u
  rw [hended] at hrecorder
  have hclips : (afterClose u).recorder.clips = (updateOpen (fun _ => closedClip k s) s).recorder.clips := by
    rw [hrecorder]
  refine ⟨(openClip_congr hclips).trans (openClip_updateOpen_ended fun _ => rfl), by rw [hrecorder], ?_,
    by rw [hrecorder], by rw [hrecorder], fun hm => ?_, fun hm => ?_, fun hrestart hafter => ?_,
    fun hrestart hpower hready => ?_⟩
  · rw [hclips]
    exact mem_updateOpen (f := fun _ => closedClip k s) hopen
  · exact (keeps_afterClose (Keeps.refl u)).isLatched_of _ (hshut hm)
  · exact isLatched_afterClose (by rw [hended]; exact hst) ((hkeeps.isMuted_eq _).trans hm)
  · rw [afterClose_idle (by rw [hended]; exact hrestart) (by rw [hended]; exact hafter), hidle, dropHeld,
      setRecState_frame]
    exact ⟨rfl, rfl, by rw [hended], hunit, fun m hstop hrunning => ⟨by rw [hended], hanswered hstop hrunning⟩⟩
  · obtain ⟨d, hready⟩ := hready
    rw [card_afterClose] at hready
    obtain ⟨q, h⟩ := afterClose_restarts (by rw [hended]; exact hrestart) (by rw [hended]; exact hpower) hready
    rw [h, hended]
    exact ⟨rfl, rfl, rfl, rfl, rfl⟩

end

/-! ### Index answers (R105, R125) -/

section
variable {s t u : State} {c : CardSlot} {k : Clip}

/-- The other card still owes an index answer. -/
def owesOther (c : CardSlot) (s : State) : Bool := if c = .a then s.recorder.awaitB else s.recorder.awaitA

theorem setAwait_eq (c : CardSlot) (s : State) : setAwait c false s = { s with recorder := { s.recorder with
    awaitA := s.recorder.awaitA && c != .a, awaitB := s.recorder.awaitB && c != .b } } := by
  cases c <;> simp [setAwait]

theorem loseIndex_eq (c : CardSlot) (k : Clip) : k.loseIndex c = { k with
    indexLostA := k.indexLostA || c == .a, indexLostB := k.indexLostB || c == .b } := by
  cases c <;> simp [Clip.loseIndex]

theorem keepsOpen_loseIndex (c : CardSlot) : keepsOpen (Clip.loseIndex c) := by
  intro k
  cases c <;> rfl

/-- The clip after an index answer. -/
def answeredClip (c : CardSlot) (lost : Bool) (k : Clip) : Clip := if lost = true then k.loseIndex c else k

theorem recordIndexAnswer_eq (c : CardSlot) (lost : Bool) (s : State) : recordIndexAnswer c lost s
    = { s with recorder := { s.recorder with
        clips := (recordIndexAnswer c lost s).recorder.clips
        awaitA := s.recorder.awaitA && c != .a, awaitB := s.recorder.awaitB && c != .b } } := by
  unfold recordIndexAnswer
  dsimp only
  rw [setAwait_eq]
  split <;> rfl

theorem openClip_recordIndexAnswer (hopen : openClip s = some k) (c : CardSlot) (lost : Bool) :
    openClip (recordIndexAnswer c lost s) = some (answeredClip c lost k) := by
  have hawait : openClip (setAwait c false s) = some k := by rw [setAwait_eq]; exact hopen
  cases lost
  · exact hawait
  · exact (openClip_updateOpen (keepsOpen_loseIndex c)).trans (congrArg _ hawait)

theorem indexAnswered_owed (h : owesOther c s = true) (lost : Bool) :
    indexAnswered c lost s = recordIndexAnswer c lost s := by
  have hrecorder := congrArg State.recorder (recordIndexAnswer_eq c lost s)
  have hawait : (recordIndexAnswer c lost s).recorder.awaitA = true
      ∨ (recordIndexAnswer c lost s).recorder.awaitB = true := by
    rw [hrecorder]
    cases c
    · exact .inr (by simpa [owesOther] using h)
    · exact .inl (by simpa [owesOther] using h)
  obtain h | h := hawait <;> simp [indexAnswered, closeIfIndexed, h]

theorem indexAnswered_last (h : owesOther c s = false) (hphase : s.recorder.phase = some .indexing) (lost : Bool) :
    indexAnswered c lost s = closeClip (recordIndexAnswer c lost s) := by
  have hrecorder := congrArg State.recorder (recordIndexAnswer_eq c lost s)
  have hin : (recordIndexAnswer c lost s).recorder.phase = some .indexing
      ∧ (recordIndexAnswer c lost s).recorder.awaitA = false
      ∧ (recordIndexAnswer c lost s).recorder.awaitB = false := by
    rw [hrecorder]
    cases c
    · exact ⟨hphase, Bool.and_false _, by simpa [owesOther] using h⟩
    · exact ⟨hphase, by simpa [owesOther] using h, Bool.and_false _⟩
  obtain ⟨hphase', ha, hb⟩ := hin
  simp [indexAnswered, closeIfIndexed, hphase', ha, hb]

/-- The state `u` agrees with `s` in all that a close reads, but for the clips, the target cards and the index answers
owed, with what `s` has latched still latched. -/
structure SameButClips (s u : State) : Prop where
  recorder : ∃ a b clips awaitA awaitB, u.recorder = { s.recorder with
    targetA := a, targetB := b, clips := clips, awaitA := awaitA, awaitB := awaitB }
  unit : u.unit = s.unit
  clock : u.clock = s.clock
  keeps : Keeps s u

theorem SameButClips.recordIndexAnswer (h : SameButClips s u) (c : CardSlot) (lost : Bool) :
    SameButClips s (recordIndexAnswer c lost u) := by
  obtain ⟨⟨a, b, clips, awaitA, awaitB, hrecorder⟩, hunit, hclock, hkeeps⟩ := h
  have heq := recordIndexAnswer_eq c lost u
  refine ⟨⟨_, _, _, _, _, (congrArg State.recorder heq).trans (by rw [hrecorder])⟩,
    (congrArg State.unit heq).trans hunit, (congrArg State.clock heq).trans hclock,
    keeps_recordIndexAnswer hkeeps c lost⟩

theorem closedClip_congr (h : u.clock = s.clock) (k : Clip) : closedClip k u = closedClip k s := by
  rw [closedClip, closedClip, endLabelOf, endLabelOf, h]

theorem clipCloses_before (hclose : clipCloses k u t) (h : SameButClips s u) : clipCloses k s t := by
  obtain ⟨⟨a, b, clips, awaitA, awaitB, hrecorder⟩, hunit, hclock, hkeeps⟩ := h
  obtain ⟨hnone, hphase, hmem, ha, hb, hclosed, hstate, hidle, hrestart⟩ := hclose
  rw [hkeeps.isMuted_eq] at hclosed hstate
  rw [closedClip_congr hclock] at hmem hidle
  have hidleState : idleState u = idleState s := by rw [idleState, idleState, hrecorder, hclock]
  rw [hidleState, hrecorder, hunit] at hidle
  rw [hrecorder] at hrestart
  refine ⟨hnone, hphase, hmem, ha, hb, hclosed, hstate, fun hflag hafter => ?_, hrestart⟩
  obtain ⟨hst, hheld, hstart, hsame, hanswered⟩ := hidle hflag hafter
  refine ⟨hst, hheld, hstart, hsame, fun m hstop hrunning => ?_⟩
  obtain ⟨hstop', hunit'⟩ := hanswered m hstop hrunning
  exact ⟨hstop', hunit'.trans (answered_unit_congr hunit ..)⟩

/-- The last index answer closes the clip (R125). -/
theorem indexAnswered_closes (h : SameButClips s u) (hopen : openClip u = some k)
    (hphase : s.recorder.phase = some .indexing) (hst : s.recorder.state = .stopping)
    (howed : owesOther c u = false) (lost : Bool) :
    clipCloses (answeredClip c lost k) s (indexAnswered c lost u) := by
  have hafter := h.recordIndexAnswer c lost
  obtain ⟨_, _, _, _, _, hu⟩ := h.recorder
  obtain ⟨_, _, _, _, _, hrecorder⟩ := hafter.recorder
  rw [indexAnswered_last howed (by rw [hu]; exact hphase)]
  exact clipCloses_before
    (closeClip_closes (openClip_recordIndexAnswer hopen c lost) (by rw [hrecorder]; exact hst)) hafter

theorem card_recordIndexAnswer (d c : CardSlot) (lost : Bool) (s : State) :
    card d (recordIndexAnswer c lost s) = card d s := by
  rw [recordIndexAnswer_eq]; exact card_congr d rfl rfl

theorem isTarget_recordIndexAnswer (d c : CardSlot) (lost : Bool) (s : State) :
    isTarget d (recordIndexAnswer c lost s) = isTarget d s := by
  rw [recordIndexAnswer_eq]; cases d <;> rfl

/-- What the last index answer makes of a card: a target card is deselected. -/
theorem card_indexAnswered_last (hopen : openClip u = some k) (hphase : u.recorder.phase = some .indexing)
    (howed : owesOther c u = false) (lost : Bool) (d : CardSlot) : card d (indexAnswered c lost u)
      = { card d u with state := if isTarget d u = true then deselectedState d u else (card d u).state } := by
  have hlines : (recordIndexAnswer c lost u).lines = u.lines := by rw [recordIndexAnswer_eq]
  rw [indexAnswered_last howed hphase, card_closeClip (openClip_recordIndexAnswer hopen c lost),
    card_recordIndexAnswer, isTarget_recordIndexAnswer,
    deselectedState_congr (card_recordIndexAnswer d c lost u) hlines]

/-- An index answer while the other card still owes its own: the flag of a lost index is set, and the answer is in. -/
theorem indexAnswered_waits (howed : owesOther c u = true) (hopen : openClip u = some k) (lost : Bool) :
    openClip (indexAnswered c lost u) = some (answeredClip c lost k)
      ∧ ∃ clips, indexAnswered c lost u = { u with recorder := { u.recorder with
          clips := clips, awaitA := u.recorder.awaitA && c != .a, awaitB := u.recorder.awaitB && c != .b } } := by
  rw [indexAnswered_owed howed]
  exact ⟨openClip_recordIndexAnswer hopen c lost, _, recordIndexAnswer_eq c lost u⟩

end

end Sys2Proof.Machine
end

section
/-! PROOFS. The ends of block writes and index writes, and the write error that loses a card (R102 to R105). -/
namespace Sys2Proof.Machine

/-! ### What a free link starts (R102, R104) -/

section
variable {s : State} {c : CardSlot} {k : Card} {r : IndexRecord} {e : QueueEntry} {rest : List QueueEntry}

theorem startNext_setCard (c : CardSlot) (k : Card) (s : State) :
    startNext c (setCard c k s) = setCard c k.serveLink s := by
  rw [startNext, card_setCard_same, setCard_setCard]

theorem serveLink_of_busy (h : k.op ≠ none) : k.serveLink = k := by
  simp [Card.serveLink, Option.isSome_iff_ne_none, h]

theorem serveLink_of_index (hop : k.op = none) (hqueue : k.queue = []) (hindex : k.index = some r) :
    k.serveLink = { k with op := some ⟨.indexWrite, 6750000, 0,
      some ⟨k.committed, min (k.indexCount + 1) 65535, r.number⟩, true⟩ } := by
  obtain ⟨_, _, _, _, _, _, queue, op, index, _⟩ := k
  dsimp only at hop hqueue hindex
  subst hop hqueue hindex
  rfl

theorem serveLink_of_nothing (hqueue : k.queue = []) (hindex : k.index = none) : k.serveLink = k := by
  unfold Card.serveLink
  split
  · rfl
  · simp [hqueue, hindex]

/-- With no index pending a free link sends the first block of the entry at the head of the queue. -/
theorem serveLink_of_queue (hop : k.op = none) (hindex : k.index = none) : k.serveLink = { k with
    op := k.queue.head?.map fun x => ⟨.blockWrite, 6750000, x.blocks - 1, none, true⟩ } := by
  obtain ⟨_, _, _, _, _, _, queue, op, index, _⟩ := k
  dsimp only at hop hindex
  subst hop hindex
  cases queue <;> rfl

theorem serveLink_serveLink (k : Card) : k.serveLink.serveLink = k.serveLink := by
  by_cases h : k.serveLink.op = none
  · have hsame : k.serveLink = k := by
      unfold Card.serveLink at h ⊢
      split
      · rfl
      next hop =>
        split
        next heq => simp [hop, heq, Card.start] at h
        next hqueue hindex => simp [hop, hqueue, hindex, Card.startIndex] at h
        · rfl
    rw [hsame, hsame]
  · exact serveLink_of_busy h

theorem idleCheck_of_active (h : (card c s).state = .active) : idleCheck c s = s := by
  simp [idleCheck, checkPoint, h]

/-- A card that takes an index request has the record pending; any other answers INDEX_LOST at once (R104). -/
theorem requestIndex_taken (h : (card c s).state = .active ∨ (card c s).state = .ready ∨ (card c s).state = .full)
    (k : Clip) : requestIndex c true k s = setCard c
      { card c s with index := some (indexRecordFor c k s) : Card }.serveLink s := by
  have htakes : (card c s).state.takesIndex = true := by obtain h | h | h := h <;> rw [h] <;> rfl
  rw [requestIndex, if_pos rfl, if_pos htakes, indexRequest, startNext_setCard]

theorem requestIndex_lost (h : (card c s).state = .empty ∨ (card c s).state = .mounting
    ∨ (card c s).state = .protect ∨ (card c s).state = .formatting ∨ (card c s).state = .fault) (k : Clip) :
    requestIndex c true k s = recordIndexAnswer c true s := by
  have hleft : (card c s).state.takesIndex = false := by obtain h | h | h | h | h := h <;> rw [h] <;> rfl
  rw [requestIndex, if_pos rfl, hleft]
  rfl

end

/-! ### A card while clips end and move (R98, R122, R125) -/

/-- From `s` to `t` a card has not become EMPTY, and has stayed as it was if it was in FAULT. -/
def CardHolds (c : CardSlot) (s t : State) : Prop :=
  ((card c s).state ≠ .empty → (card c t).state ≠ .empty) ∧ ((card c s).state = .fault → card c t = card c s)

section
variable {s t u : State} {c d : CardSlot}

theorem CardHolds.of_eq (h : card c t = card c s) : CardHolds c s t := ⟨fun hne => h ▸ hne, fun _ => h⟩

theorem CardHolds.trans (h : CardHolds c s t) (h' : CardHolds c t u) : CardHolds c s u :=
  ⟨fun hne => h'.1 (h.1 hne), fun hfault => (h'.2 (by rw [h.2 hfault]; exact hfault)).trans (h.2 hfault)⟩

/-- A card that changes its state only, and only outside FAULT and to a state other than EMPTY. -/
theorem CardHolds.of_state {st : CardState} (h : card c t = { card c s with state := st })
    (hne : (card c s).state ≠ .empty → st ≠ .empty) (hfault : (card c s).state = .fault → st = .fault) :
    CardHolds c s t := by
  refine ⟨fun h' => by rw [h]; exact hne h', fun h' => ?_⟩
  rw [h, hfault h', ← h']

theorem eq_or_eq_otherCard (c d : CardSlot) : c = d ∨ c = otherCard d := by cases c <;> cases d <;> decide

theorem cardHolds_setCardState {st : CardState} (hst : st ≠ .empty) (h : (card d s).state ≠ .fault) (c : CardSlot) :
    CardHolds c s (setCardState d st s) := by
  obtain rfl | rfl := eq_or_eq_otherCard c d
  · exact .of_state (card_setCardState c st s) (fun _ => hst) fun hfault => absurd hfault h
  · exact .of_eq (card_setCardState_other d st s)

theorem checkedState_ne_empty (h : (card c s).state ≠ .empty) : checkedState c s ≠ .empty := by
  unfold checkedState
  split
  · nofun
  · split
    · obtain h' | h' := (card c s).openState_cases <;> rw [h'] <;> nofun
    · exact h

/-- A target card that leaves the clip keeps FAULT, and becomes EMPTY by no means. -/
theorem CardHolds.of_dropped (h : card c t
    = { card c s with state := if isTarget c s = true then deselectedState c s else (card c s).state }) :
    CardHolds c s t := by
  refine .of_state h (fun hne => ?_) fun hfault => ?_
  · unfold deselectedState
    split
    · split
      · split
        · nofun
        · obtain h' | h' := (card c s).openState_cases <;> rw [h'] <;> nofun
      · exact hne
    · exact hne
  · simp [deselectedState, hfault]

theorem cardHolds_select (c d : CardSlot) (s : State) : CardHolds c s (select d s) := by
  unfold select
  split
  next h => exact cardHolds_setCardState (by nofun) (by rw [h]; nofun) c
  next => exact .of_eq rfl

/-- A queue request does nothing to a card that is not ACTIVE, and leaves an ACTIVE one ACTIVE, FULL or PROTECTED. -/
theorem cardHolds_queueExtent (c d : CardSlot) (e : Extent) (s : State) : CardHolds c s (queueExtent d e s) := by
  by_cases hst : (card d s).state = .active
  · obtain rfl | rfl := eq_or_eq_otherCard c d
    · refine ⟨fun _ => ?_, fun hfault => by rw [hst] at hfault; cases hfault⟩
      unfold queueExtent
      split
      · rw [startNext, card_setCard_same, serveLink_frame, card_setCard_same, hst]; nofun
      · rw [card_checkPoint]
        exact checkedState_ne_empty (by rw [card_setCardState]; nofun)
      all_goals rw [hst]; nofun
    · refine .of_eq ?_
      unfold queueExtent
      split
      · rw [startNext, card_setCard_other, card_setCard_other]
      · rw [card_checkPoint_other, card_setCardState_other]
      all_goals rfl
  · have hsame : queueExtent d e s = s := by simp [queueExtent, queueAnswer, hst]
    rw [hsame]
    exact .of_eq rfl

theorem cardHolds_tryQueue (c d : CardSlot) (e : Extent) (s : State) : CardHolds c s (tryQueue d e s).2 := by
  unfold tryQueue
  dsimp only
  refine CardHolds.trans (.of_eq ?_) (cardHolds_queueExtent c d e _)
  split
  · exact card_congr c rfl rfl
  all_goals rfl

theorem cardHolds_requeueAll (c d : CardSlot) (l : List Extent) (s : State) : CardHolds c s (requeueAll d l s) := by
  induction l generalizing s with
  | nil => exact .of_eq rfl
  | cons e rest ih =>
    unfold requeueAll
    dsimp only
    split
    · exact (cardHolds_tryQueue ..).trans (ih _)
    all_goals
      refine (cardHolds_tryQueue c (otherCard d) e s).trans (.of_eq ?_)
      rw [card_stopGiven, card_degrade, card_failAll, card_setTarget]

theorem cardHolds_relayFrom (c d : CardSlot) (s : State) : CardHolds c s (relayFrom d s) := by
  have hselect := cardHolds_select c (otherCard d) (setTarget d false s)
  refine (CardHolds.of_eq (card_setTarget d false c)).trans (hselect.trans (.of_eq ?_))
  have hmarked (u : State) : card c (latch .relay (addMark .relay none u)) = card c u :=
    (card_congr c rfl rfl).trans (card_addMark c .relay none u)
  exact (hmarked _).trans ((card_updateOpen c).trans (card_setTarget ..))

theorem cardHolds_loseClip (c d : CardSlot) (l : List Extent) (s : State) : CardHolds c s (loseClip d l s) :=
  (CardHolds.of_eq (card_failAll c d l s)).trans (.of_dropped (card_breakClip c _))

theorem cardHolds_closeIfIndexed (c : CardSlot) (s : State) : CardHolds c s (closeIfIndexed s) := by
  unfold closeIfIndexed
  split
  · cases hopen : openClip s with
    | none => exact .of_eq (by simp only [closeClip, hopen])
    | some k => exact .of_dropped (card_closeClip hopen c)
  · exact .of_eq rfl

theorem cardHolds_requestIndex (c d : CardSlot) (owed : Bool) (k : Clip) (s : State) :
    CardHolds c s (requestIndex d owed k s) := by
  unfold requestIndex
  split
  · split
    next htakes =>
      rw [indexRequest, startNext_setCard]
      obtain rfl | rfl := eq_or_eq_otherCard c d
      · refine ⟨fun hne => ?_, fun hfault => by rw [hfault] at htakes; cases htakes⟩
        rw [card_setCard_same, serveLink_frame]
        exact hne
      · exact .of_eq (card_setCard_other ..)
    next => exact .of_eq (card_recordIndexAnswer ..)
  · exact .of_eq rfl

theorem cardHolds_drainIfDone (c : CardSlot) (s : State) : CardHolds c s (drainIfDone s) := by
  unfold drainIfDone
  split
  next k _ =>
    split
    · extract_lets a b r u
      have hu : CardHolds c s u := .of_eq (card_congr c rfl rfl)
      exact hu.trans ((cardHolds_requestIndex c .a a k u).trans
        ((cardHolds_requestIndex c .b b k _).trans (cardHolds_closeIfIndexed c _)))
    · exact .of_eq rfl
  · exact .of_eq rfl

theorem cardHolds_indexAnswered (c d : CardSlot) (lost : Bool) (s : State) :
    CardHolds c s (indexAnswered d lost s) :=
  (CardHolds.of_eq (card_recordIndexAnswer c d lost s)).trans (cardHolds_closeIfIndexed c _)

theorem card_setSides (c d : CardSlot) (l : List Extent) (s : State) :
    card c (l.foldl (fun s e => setSide d .failed e.slot e.place s) s) = card c s := by
  induction l generalizing s with
  | nil => rfl
  | cons e rest ih => exact (ih _).trans (card_congr c rfl rfl)

theorem cardHolds_lostInRelay (c d : CardSlot) (l : List Extent) (s : State) : CardHolds c s (lostInRelay d l s) := by
  unfold lostInRelay
  dsimp only
  split
  · exact .of_eq (card_failAll ..)
  · split
    · exact .of_eq (card_setTarget ..)
    · split
      · exact (CardHolds.of_eq (card_setSides c d l s)).trans
          ((cardHolds_relayFrom ..).trans (cardHolds_requeueAll ..))
      · exact cardHolds_loseClip ..

theorem cardHolds_lostInMirror (c d : CardSlot) (l : List Extent) (s : State) : CardHolds c s (lostInMirror d l s) := by
  unfold lostInMirror
  dsimp only
  refine (CardHolds.of_eq (card_setTarget d false c (s := s))).trans ?_
  split
  · exact .of_eq ((card_failAll ..).trans (card_degrade ..))
  · split
    · exact .of_eq rfl
    · split
      · exact .of_eq (card_failAll ..)
      · exact cardHolds_loseClip ..

/-- The loss of a card to a clip empties no card, and leaves a card in FAULT as it is. -/
theorem cardHolds_cardLost (c d : CardSlot) (l : List Extent) (s : State) : CardHolds c s (cardLost d l s) := by
  unfold cardLost
  refine CardHolds.trans ?_ (cardHolds_drainIfDone c _)
  split
  · unfold lostElsewhere
    dsimp only
    split
    · exact .of_eq ((card_degrade ..).trans (card_failAll ..))
    · exact .of_eq (card_failAll ..)
  · split
    · exact cardHolds_lostInMirror ..
    · exact cardHolds_lostInRelay ..

end

/-! ### A block write done (R102) -/

section
variable {s : State} {c : CardSlot} {e : QueueEntry} {rest : List QueueEntry}

/-- Outside STOPPING the answer for an extent touches the clips, the essence records and their requests only. -/
theorem extentAnswered_frame (hphase : s.recorder.phase = none) (c : CardSlot) (e : QueueEntry) (written : Bool) :
    ∃ clips es u, extentAnswered c e written s
      = withEssences es u { s with recorder := { s.recorder with clips := clips } } := by
  have hsides := settleBySides_frame e.extent.slot e.extent.place (setSide c (if written then .written else .failed)
    e.extent.slot e.extent.place
    (creditSpan c ((essenceExtent e.extent.slot e.extent.place s).bind EssenceExtent.record) e.blocks s))
  rw [extentAnswered]
  dsimp only
  rw [hsides, drainIfDone_of_phase]
  · exact ⟨_, _, _, rfl⟩
  · exact hphase ▸ nofun

/-- The card with the head entry of its queue done, before its link is served. -/
def writtenCard (e : QueueEntry) (rest : List QueueEntry) (k : Card) : Card :=
  { k with queue := rest, committed := k.committed + e.blocks, reserved := k.reserved - e.blocks, op := none }

theorem writeDone_eq (hqueue : (card c s).queue = e :: rest) (written : Bool) : writeDone c written (endOp c s)
    = idleCheck c (startNext c (extentAnswered c e written (startNext c
        (latchIf (!written) .workAreaFault (setCard c (writtenCard e rest (card c s)) s))))) := by
  have hcard : card c (endOp c s) = { card c s with op := none } := card_setCard_same ..
  have hset : setCard c { card c (endOp c s) with
      queue := rest, committed := (card c (endOp c s)).committed + e.blocks
      reserved := (card c (endOp c s)).reserved - e.blocks } (endOp c s)
      = setCard c (writtenCard e rest (card c s)) s := by
    rw [hcard, endOp, setCard_setCard]
    rfl
  unfold writeDone
  dsimp only
  rw [hcard, hqueue, ← hset, hcard]

end

/-! ### A write error (R103) -/

section
variable {s : State} {c : CardSlot}

/-- The state with a card in FAULT, its queue and its index pending taken from it. -/
def cardFaulted (c : CardSlot) (s : State) : State :=
  setCardState c .fault (setCard c { card c s with op := none, queue := [], reserved := 0, index := none } s)

theorem writeError_eq (c : CardSlot) (s : State) : writeError c (endOp c s)
    = if (card c s).index.isSome then indexAnswered c true (cardLost c (card c s).queued (cardFaulted c s))
      else cardLost c (card c s).queued (cardFaulted c s) := by
  have hcard : card c (endOp c s) = { card c s with op := none } := card_setCard_same ..
  have hset : setCard c { card c (endOp c s) with op := none, queue := [], reserved := 0, index := none } (endOp c s)
      = setCard c { card c s with op := none, queue := [], reserved := 0, index := none } s := by
    rw [hcard, endOp, setCard_setCard]
  unfold writeError
  dsimp only
  rw [hset, hcard]
  rfl

theorem card_cardFaulted (c : CardSlot) (s : State) : card c (cardFaulted c s)
    = { card c s with state := .fault, op := none, queue := [], reserved := 0, index := none } := by
  rw [cardFaulted, card_setCardState, card_setCard_same]

theorem card_cardFaulted_other (c : CardSlot) (s : State) :
    card (otherCard c) (cardFaulted c s) = card (otherCard c) s := by
  rw [cardFaulted, card_setCardState_other, card_setCard_other]

theorem cardFaulted_recorder (c : CardSlot) (s : State) : (cardFaulted c s).recorder = s.recorder := by
  rw [cardFaulted, setCardState_recorder, setCard_recorder]

theorem cardFaulted_unit (c : CardSlot) (s : State) : (cardFaulted c s).unit = s.unit := by
  rw [cardFaulted, setCardState_unit, setCard_unit]

theorem outside_cardFaulted (c : CardSlot) (s : State) : outside (cardFaulted c s) = outside s := by
  simp [cardFaulted]

theorem keeps_cardFaulted (c : CardSlot) (s : State) : Keeps s (cardFaulted c s) :=
  keeps_setCardState (keeps_setCard (Keeps.refl s) c _) c .fault

theorem isLatched_cardFaulted (h : (card c s).state ≠ .fault) :
    (isMuted .mediaFault s = false → isLatched .mediaFault (cardFaulted c s) = true)
    ∧ (isMuted (cardClass c) s = false → isLatched (cardClass c) (cardFaulted c s) = true) := by
  have hkeeps := keeps_setCard (Keeps.refl s) c { card c s with op := none, queue := [], reserved := 0, index := none }
  have hst : (card c (setCard c { card c s with op := none, queue := [], reserved := 0, index := none } s)).state
      ≠ .fault := by rw [card_setCard_same]; exact h
  exact ⟨fun hm => isLatched_mediaFault hst ((hkeeps.isMuted_eq _).trans hm),
    fun hm => isLatched_setCardState hst ((hkeeps.isMuted_eq _).trans hm)⟩

end

end Sys2Proof.Machine
end

section
/-! PROOFS. Card writes, index writes and formats end, and a card is lost (O50). -/
namespace Sys2Proof.Machine

/-! ### The statements of a lost card, carried between states (R122) -/

section
variable {s t u : State} {c : CardSlot} {e : Extent} {k : Clip}

/-- What `lostByRelay` says of the state before reads the record engine, the slot unit, the other card with its protect
level, and the levels of the event classes. -/
theorem lostByRelay_before (h : lostByRelay c e k u t) (hrecorder : u.recorder = s.recorder) (hunit : u.unit = s.unit)
    (hcard : card (otherCard c) u = card (otherCard c) s)
    (hprotected : isProtected (otherCard c) u = isProtected (otherCard c) s) (hkeeps : Keeps s u) :
    lostByRelay c e k s t := by
  have hsettled (h : returnSettled c e u t) : returnSettled c e s t :=
    returnSettled_before h (by rw [hrecorder]) hunit
  have hbroken (h : clipBroken k u t) : clipBroken k s t :=
    clipBroken_congr h (hkeeps.isMuted_eq _).symm (by rw [hrecorder]) (by rw [hrecorder])
      fun hempty => ⟨by rw [hrecorder, hempty], hunit⟩
  unfold lostByRelay at h ⊢
  dsimp only at h ⊢
  rw [hcard, hprotected, hkeeps.isMuted_eq, hrecorder, hunit] at h
  obtain ⟨hroom, hfull, hbreaks⟩ := h
  refine ⟨hroom, fun hready hspans hfree hmarks hpending => ?_, fun hstuck => ?_⟩
  · obtain ⟨hc, hd, hleft, hqueue, hreserved, hclip, hlatched, hst, hstop, hreturned⟩ :=
      hfull hready hspans hfree hmarks hpending
    exact ⟨hc, hd, hleft, hqueue, hreserved, hclip, hlatched, hst, hstop, hsettled hreturned⟩
  · obtain ⟨hbroke, hreturned⟩ := hbreaks hstuck
    exact ⟨hbroken hbroke, fun hstop hstart => hsettled (hreturned hstop hstart)⟩

end

/-! ### A block write done, or its source in error (R102) -/

section
variable {s : State} {c : CardSlot} {e : QueueEntry} {rest : List QueueEntry}

theorem card_latchIf (d : CardSlot) (b : Bool) (class' : EventClass) (s : State) :
    card d (latchIf b class' s) = card d s := by
  unfold latchIf
  split
  · exact card_congr d rfl rfl
  · rfl

theorem card_extentAnswered (hphase : s.recorder.phase = none) (d c : CardSlot) (e : QueueEntry) (written : Bool) :
    card d (extentAnswered c e written s) = card d s := by
  obtain ⟨clips, es, u, h⟩ := extentAnswered_frame hphase c e written
  rw [h]
  exact card_congr d rfl rfl

theorem keeps_extentAnswered {o : State} (h : Keeps o s) (c : CardSlot) (e : QueueEntry)
    (written : Bool) : Keeps o (extentAnswered c e written s) := by
  unfold extentAnswered
  exact keeps_drainIfDone (keeps_settleBySides (keeps_setSide (s := creditSpan ..) h _ _ _ _) _ _)

/-- The state in which the record engine hears that the head entry of a queue is done. -/
def entryDone (c : CardSlot) (e : QueueEntry) (rest : List QueueEntry) (written : Bool) (s : State) : State :=
  startNext c (latchIf (!written) .workAreaFault (setCard c (writtenCard e rest (card c s)) s))

theorem entryDone_recorder (c : CardSlot) (e : QueueEntry) (rest : List QueueEntry) (written : Bool) (s : State) :
    (entryDone c e rest written s).recorder = s.recorder := by
  have hlatch (b : Bool) (u : State) : (latchIf b .workAreaFault u).recorder = u.recorder := by cases b <;> rfl
  rw [entryDone, startNext, setCard_recorder, hlatch, setCard_recorder]

theorem card_entryDone (c : CardSlot) (e : QueueEntry) (rest : List QueueEntry) (written : Bool) (s : State) :
    card c (entryDone c e rest written s) = (writtenCard e rest (card c s)).serveLink := by
  rw [entryDone, startNext, card_setCard_same, card_latchIf, card_setCard_same]

theorem card_entryDone_other (c : CardSlot) (e : QueueEntry) (rest : List QueueEntry) (written : Bool) (s : State) :
    card (otherCard c) (entryDone c e rest written s) = card (otherCard c) s := by
  rw [entryDone, startNext, card_setCard_other, card_latchIf, card_setCard_other]

/-- Outside STOPPING the end of a block write takes the head entry from the queue and serves the next. -/
theorem writeDone_of_active (hst : (card c s).state = .active) (hqueue : (card c s).queue = e :: rest)
    (hphase : s.recorder.phase = none) (written : Bool) : writeDone c written (endOp c s)
      = extentAnswered c e written (entryDone c e rest written s) := by
  have hphase' : (entryDone c e rest written s).recorder.phase = none := by rw [entryDone_recorder, hphase]
  have hcard : card c (extentAnswered c e written (entryDone c e rest written s))
      = (writtenCard e rest (card c s)).serveLink := by
    rw [card_extentAnswered hphase', card_entryDone]
  have hserved : startNext c (extentAnswered c e written (entryDone c e rest written s))
      = extentAnswered c e written (entryDone c e rest written s) := by
    rw [startNext, hcard, serveLink_serveLink, ← hcard, setCard_card]
  have hactive : (card c (extentAnswered c e written (entryDone c e rest written s))).state = .active := by
    rw [hcard, serveLink_frame]
    exact hst
  rw [writeDone_eq hqueue]
  exact (congrArg (idleCheck c) hserved).trans (idleCheck_of_active hactive)

theorem card_writeDone (hst : (card c s).state = .active) (hqueue : (card c s).queue = e :: rest)
    (hindex : (card c s).index = none) (hphase : s.recorder.phase = none) (written : Bool) :
    card c (writeDone c written (endOp c s)) = { card c s with
      queue := rest, committed := (card c s).committed + e.blocks, reserved := (card c s).reserved - e.blocks
      op := rest.head?.map fun x => ⟨.blockWrite, 6750000, x.blocks - 1, none, true⟩ }
    ∧ card (otherCard c) (writeDone c written (endOp c s)) = card (otherCard c) s := by
  have hphase' : (entryDone c e rest written s).recorder.phase = none := by rw [entryDone_recorder, hphase]
  rw [writeDone_of_active hst hqueue hphase, card_extentAnswered hphase', card_extentAnswered hphase', card_entryDone,
    card_entryDone_other, serveLink_of_queue (k := writtenCard e rest (card c s)) rfl hindex]
  exact ⟨rfl, rfl⟩

/-- Both ends of a block write that take its entry from the queue (R102). -/
theorem blockDone_eq {left unsent : Nat} {cmd : Instr} (hcmd : cmd = .blockWriteEnd c .done ∨ cmd = .extentSourceError c)
    (hop : (card c s).op = some ⟨.blockWrite, left, unsent, none, true⟩) : ∃ written,
    exec cmd s = .next (writeDone c written (endOp c s)) ∧ (cmd = .extentSourceError c → written = false) := by
  obtain rfl | rfl := hcmd
  · exact ⟨true, congrArg Host.Outcome.next (linkEnd_observed hop _), nofun⟩
  · exact ⟨false, congrArg Host.Outcome.next (linkEnd_observed hop _), fun _ => rfl⟩

theorem blockWrite_done (c : CardSlot) (left unsent : Nat) (e : QueueEntry) (rest : List QueueEntry) (cmd : Instr)
    (s : State) (hcmd : cmd = .blockWriteEnd c .done ∨ cmd = .extentSourceError c)
    (hst : (card c s).state = .active) (hop : (card c s).op = some ⟨.blockWrite, left, unsent, none, true⟩)
    (hqueue : (card c s).queue = e :: rest) (hindex : (card c s).index = none) (hphase : s.recorder.phase = none) :
    ∃ t, exec cmd s = .next t
      ∧ card c t = { card c s with
          queue := rest, committed := (card c s).committed + e.blocks,
          reserved := (card c s).reserved - e.blocks,
          op := rest.head?.map fun x => ⟨.blockWrite, 6750000, x.blocks - 1, none, true⟩ }
      ∧ (cmd = .extentSourceError c → isMuted .workAreaFault s = false → isLatched .workAreaFault t = true)
      ∧ card (otherCard c) t = card (otherCard c) s ∧ t.recorder.state = s.recorder.state ∧ t.clock = s.clock
      ∧ t.lines = s.lines ∧ t.power = s.power ∧ t.vf = s.vf ∧ t.mem = s.mem := by
  obtain ⟨written, hexec, hsource⟩ := blockDone_eq hcmd hop
  obtain ⟨hcard, hother⟩ := card_writeDone hst hqueue hindex hphase written
  have hphase' : (entryDone c e rest written s).recorder.phase = none := by rw [entryDone_recorder, hphase]
  have houtside : outside (writeDone c written (endOp c s)) = outside s := by simp [endOp]
  refine ⟨_, hexec, hcard, fun herror hm => ?_, hother, ?_, congrArg Outside.clock houtside,
    congrArg Outside.lines houtside, congrArg Outside.power houtside, congrArg Outside.vf houtside,
    congrArg Outside.mem houtside⟩
  · have hlatched : isLatched .workAreaFault (entryDone c e rest written s) = true := by
      rw [hsource herror, entryDone]
      refine (keeps_startNext (Keeps.refl _) c).isLatched_of _ (isLatched_latch ?_)
      exact ((keeps_setCard (Keeps.refl s) c _).isMuted_eq _).trans hm
    rw [writeDone_of_active hst hqueue hphase]
    exact (keeps_extentAnswered (Keeps.refl _) c e written).isLatched_of _ hlatched
  · obtain ⟨clips, es, u, h⟩ := extentAnswered_frame hphase' c e written
    rw [writeDone_of_active hst hqueue hphase, h, withEssences_recorder]
    have hrecorder := congrArg Recorder.state (entryDone_recorder c e rest written s)
    exact hrecorder

end

/-! ### A write error (R103, R94) -/

section
variable {s : State} {c : CardSlot} {left unsent : Nat} {h : Option CardHeader}

/-- The ERROR of a block or index write, and the time limit that passes, are the write error of R103. -/
theorem writeError_of_block {cmd : Instr} (hcmd : cmd = .blockWriteEnd c .error ∨ cmd = .cardLinkTimeout c)
    (hop : (card c s).op = some ⟨.blockWrite, left, unsent, h, true⟩) :
    exec cmd s = .next (writeError c (endOp c s)) := by
  have herror : linkEnd c .blockWrite (blockAnswered c .error) s = writeError c (endOp c s) := linkEnd_observed hop _
  obtain rfl | rfl := hcmd
  · exact congrArg Host.Outcome.next herror
  · exact congrArg Host.Outcome.next ((linkTimedOut_eq hop).trans herror)

theorem writeError_of_index {cmd : Instr} (hcmd : cmd = .indexWriteEnd c .error ∨ cmd = .cardLinkTimeout c)
    (hop : (card c s).op = some ⟨.indexWrite, left, unsent, h, true⟩) :
    exec cmd s = .next (writeError c (endOp c s)) := by
  have herror : linkEnd c .indexWrite (indexWriteAnswered c .error) s = writeError c (endOp c s) :=
    linkEnd_observed hop _
  obtain rfl | rfl := hcmd
  · exact congrArg Host.Outcome.next herror
  · exact congrArg Host.Outcome.next ((linkTimedOut_eq hop).trans herror)

theorem outside_writeError_endOp (c : CardSlot) (s : State) : outside (writeError c (endOp c s)) = outside s := by
  simp [endOp]

/-- A card that a write error has put into FAULT stays as the error leaves it, whatever the clip does. -/
theorem card_writeError (hindex : (card c s).index = none) : card c (writeError c (endOp c s))
    = { card c s with state := .fault, op := none, queue := [], reserved := 0 } := by
  have hholds := cardHolds_cardLost c c (card c s).queued (cardFaulted c s)
  obtain ⟨_, hfault⟩ := hholds
  rw [writeError_eq, hindex]
  refine (hfault (by rw [card_cardFaulted])).trans ?_
  rw [card_cardFaulted]
  exact congrArg (fun i => ({ card c s with state := .fault, op := none, queue := [], reserved := 0, index := i } : Card))
    hindex.symm

theorem keeps_writeError (c : CardSlot) (s : State) : Keeps (cardFaulted c s) (writeError c (endOp c s)) := by
  have hlost := keeps_cardLost (Keeps.refl (cardFaulted c s)) c (card c s).queued
  rw [writeError_eq]
  split
  · exact keeps_closeIfIndexed (keeps_recordIndexAnswer hlost c true)
  · exact hlost

theorem isLatched_writeError (hst : (card c s).state ≠ .fault) :
    (isMuted .mediaFault s = false → isLatched .mediaFault (writeError c (endOp c s)) = true)
    ∧ (isMuted (cardClass c) s = false → isLatched (cardClass c) (writeError c (endOp c s)) = true) := by
  obtain ⟨hfault, hclass⟩ := isLatched_cardFaulted hst
  exact ⟨fun hm => (keeps_writeError c s).isLatched_of _ (hfault hm),
    fun hm => (keeps_writeError c s).isLatched_of _ (hclass hm)⟩

theorem blockWrite_error (c : CardSlot) (left unsent : Nat) (cmd : Instr) (s : State)
    (hcmd : cmd = .blockWriteEnd c .error ∨ cmd = .cardLinkTimeout c) (hst : (card c s).state ≠ .fault)
    (hop : (card c s).op = some ⟨.blockWrite, left, unsent, none, true⟩) (hindex : (card c s).index = none)
    (hopen : openClip s = none) :
    ∃ t, exec cmd s = .next t
      ∧ card c t = { card c s with state := .fault, op := none, queue := [], reserved := 0 }
      ∧ (isMuted .mediaFault s = false → isLatched .mediaFault t = true)
      ∧ (isMuted (cardClass c) s = false → isLatched (cardClass c) t = true)
      ∧ card (otherCard c) t = card (otherCard c) s ∧ t.clock = s.clock ∧ t.lines = s.lines ∧ t.vf = s.vf
      ∧ t.mem = s.mem := by
  have houtside := outside_writeError_endOp c s
  obtain ⟨hfault, hclass⟩ := isLatched_writeError hst
  refine ⟨_, writeError_of_block hcmd hop, card_writeError hindex, hfault, hclass, ?_,
    congrArg Outside.clock houtside, congrArg Outside.lines houtside, congrArg Outside.vf houtside,
    congrArg Outside.mem houtside⟩
  have hopen' : openClip (cardFaulted c s) = none := (openClip_congr (by rw [cardFaulted_recorder])).trans hopen
  rw [writeError_eq, hindex]
  refine (congrArg (card _) (cardLost_of_none hopen')).trans ?_
  rw [card_failAll, card_cardFaulted_other]

theorem blockWrite_error_relay (c : CardSlot) (left unsent : Nat) (e : QueueEntry) (s : State)
    (hst : (card c s).state = .active) (hop : (card c s).op = some ⟨.blockWrite, left, unsent, none, true⟩)
    (hqueue : (card c s).queue = [e]) (hindex : (card c s).index = none) (hrec : s.recorder.state = .recording)
    (hphase : s.recorder.phase = none) (hmirror : s.recorder.mirror = false) (htarget : isTarget c s = true)
    (k : Clip) (cmd : Instr) (hopen : openClip s = some k)
    (hcmd : cmd = .blockWriteEnd c .error ∨ cmd = .cardLinkTimeout c) :
    ∃ t, exec cmd s = .next t
      ∧ card c t = { card c s with state := .fault, op := none, queue := [], reserved := 0 }
      ∧ (isMuted .mediaFault s = false → isLatched .mediaFault t = true)
      ∧ lostByRelay c e.extent k s t
      ∧ t.clock = s.clock ∧ t.lines = s.lines ∧ t.vf = s.vf ∧ t.mem = s.mem := by
  have houtside := outside_writeError_endOp c s
  obtain ⟨hfault, _⟩ := isLatched_writeError (c := c) (s := s) (by rw [hst]; nofun)
  refine ⟨_, writeError_of_block hcmd hop, card_writeError hindex, hfault, ?_, congrArg Outside.clock houtside,
    congrArg Outside.lines houtside, congrArg Outside.vf houtside, congrArg Outside.mem houtside⟩
  have hrecorder := cardFaulted_recorder c s
  have hopen' : openClip (cardFaulted c s) = some k := (openClip_congr (by rw [hrecorder])).trans hopen
  have hlost : writeError c (endOp c s) = cardLost c [e.extent] (cardFaulted c s) := by
    rw [writeError_eq, hindex, Card.queued, hqueue]
    rfl
  rw [hlost]
  refine lostByRelay_before (cardLost_lostByRelay hopen' ?_ (by rw [hrecorder, hmirror]) (by rw [hrecorder, hphase])
    (by rw [hrecorder, hrec])) hrecorder (cardFaulted_unit c s) (card_cardFaulted_other c s) ?_ (keeps_cardFaulted c s)
  · rw [isTarget_congr c hrecorder, htarget]
  · exact isProtected_congr _ (lines_of_outside (outside_cardFaulted c s))

end

end Sys2Proof.Machine
end

section
/-! PROOFS. Index requests, and the ends of index writes and formats (O50). -/
namespace Sys2Proof.Machine

/-! ### An INDEX_WRITE that is done (R105, R125) -/

section
variable {s t : State} {c : CardSlot} {k : Clip} {r : IndexRecord} {left : Nat} {h : Option CardHeader}

/-- The state with the index record of a card written. -/
def indexWritten (c : CardSlot) (r : IndexRecord) (s : State) : State :=
  setCard c { card c s with
    op := none, index := none, indexCount := min ((card c s).indexCount + 1) 65535, lastClip := r.number } s

theorem card_indexWritten (c : CardSlot) (r : IndexRecord) (s : State) : card c (indexWritten c r s)
    = { card c s with
        op := none, index := none, indexCount := min ((card c s).indexCount + 1) 65535, lastClip := r.number } :=
  card_setCard_same ..

theorem sameButClips_of_recorder (hrecorder : t.recorder = s.recorder) (hunit : t.unit = s.unit)
    (hclock : t.clock = s.clock) (hkeeps : Keeps s t) : SameButClips s t :=
  ⟨⟨_, _, _, _, _, hrecorder⟩, hunit, hclock, hkeeps⟩

theorem sameButClips_indexWritten (c : CardSlot) (r : IndexRecord) (s : State) : SameButClips s (indexWritten c r s) :=
  sameButClips_of_recorder (setCard_recorder ..) (setCard_unit ..) (setCard_clock ..) (keeps_setCard (Keeps.refl s) ..)

theorem indexWriteEnd_done (hop : (card c s).op = some ⟨.indexWrite, left, 0, h, true⟩)
    (hindex : (card c s).index = some r) : exec (.indexWriteEnd c .done) s
      = .next (idleCheck c (startNext c (indexAnswered c false (indexWritten c r s)))) := by
  have hcard : card c (endOp c s) = { card c s with op := none } := card_setCard_same ..
  have hwritten : setCard c { card c (endOp c s) with
      index := none, indexCount := min ((card c (endOp c s)).indexCount + 1) 65535, lastClip := r.number } (endOp c s)
      = indexWritten c r s := by
    rw [hcard, endOp, setCard_setCard]
    rfl
  have hend : exec (.indexWriteEnd c .done) s = .next (indexWriteAnswered c .done (endOp c s)) :=
    congrArg Host.Outcome.next (linkEnd_observed hop _)
  rw [hend, ← hwritten]
  unfold indexWriteAnswered
  dsimp only
  rw [hcard, hindex, ← hcard]
  rfl

theorem startNext_of_nothing (hqueue : (card c s).queue = []) (hindex : (card c s).index = none) :
    startNext c s = s := by
  rw [startNext, serveLink_of_nothing hqueue hindex, setCard_card]

/-- The check point of an idle card changes nothing on a card that has just been deselected (R99). -/
theorem idleCheck_of_deselected (hst : (card c s).state = .active) (hlines : t.lines = s.lines)
    (hcard : card c t = { card c s with state := deselectedState c s }) : idleCheck c t = t := by
  have hbusy : (card c t).busy = (card c s).busy := by rw [hcard]; rfl
  have hprotected := isProtected_congr c hlines
  unfold idleCheck
  split
  · rfl
  next hidle =>
    have hfree : (card c s).busy = false := by rw [← hbusy]; exact Bool.eq_false_iff.2 hidle
    rw [checkPoint_cases]
    refine setCardState_of_eq c _ t ?_
    rw [checkedState, hprotected, hbusy, hcard]
    unfold deselectedState
    rw [if_pos hst, hfree]
    cases isProtected c s
    · obtain hopen | hopen := (card c s).openState_cases <;> simp [hopen]
    · simp

theorem indexWrite_done_waits (c : CardSlot) (left : Nat) (h : Option CardHeader) (r : IndexRecord) (s : State)
    (hst : (card c s).state = .active) (hop : (card c s).op = some ⟨.indexWrite, left, 0, h, true⟩)
    (hqueue : (card c s).queue = []) (hindex : (card c s).index = some r) (howed : owesOther c s = true) :
    exec (.indexWriteEnd c .done) s = .next { indexWritten c r s with recorder := { s.recorder with
      awaitA := s.recorder.awaitA && c != .a, awaitB := s.recorder.awaitB && c != .b } } := by
  have howed' : owesOther c (indexWritten c r s) = true := by
    rw [owesOther, indexWritten, setCard_recorder]; exact howed
  have hanswered : indexAnswered c false (indexWritten c r s) = { indexWritten c r s with recorder := { s.recorder with
      awaitA := s.recorder.awaitA && c != .a, awaitB := s.recorder.awaitB && c != .b } } := by
    rw [indexAnswered_owed howed']
    refine (setAwait_eq c (indexWritten c r s)).trans ?_
    rw [indexWritten, setCard_recorder]
  have hcard : card c (indexAnswered c false (indexWritten c r s)) = card c (indexWritten c r s) := by
    rw [hanswered]; exact card_congr c rfl rfl
  rw [card_indexWritten] at hcard
  rw [indexWriteEnd_done hop hindex, startNext_of_nothing (by rw [hcard]; exact hqueue) (by rw [hcard]),
    idleCheck_of_active (by rw [hcard]; exact hst), hanswered]

/-- The last answer is the index record written by the last target card (R125). -/
theorem indexWrite_done_closes (hst : (card c s).state = .active)
    (hop : (card c s).op = some ⟨.indexWrite, left, 0, h, true⟩) (hqueue : (card c s).queue = [])
    (hindex : (card c s).index = some r) (hstate : s.recorder.state = .stopping)
    (hphase : s.recorder.phase = some .indexing) (howed : owesOther c s = false) (htarget : isTarget c s = true)
    (hopen : openClip s = some k) : ∃ t, exec (.indexWriteEnd c .done) s = .next t ∧ clipCloses k s t
      ∧ card c t = { card c (indexWritten c r s) with state := deselectedState c (indexWritten c r s) }
      ∧ outside t = outside s := by
  have hsame := sameButClips_indexWritten c r s
  have hrecorder : (indexWritten c r s).recorder = s.recorder := setCard_recorder ..
  have howed' : owesOther c (indexWritten c r s) = false := by rw [owesOther, hrecorder]; exact howed
  have hopen' : openClip (indexWritten c r s) = some k := (openClip_congr (by rw [hrecorder])).trans hopen
  have hclose := indexAnswered_closes hsame hopen' hphase hstate howed' false
  have hcard := card_indexAnswered_last hopen' (by rw [hrecorder]; exact hphase) howed' false c
  rw [isTarget_congr c hrecorder, if_pos htarget] at hcard
  have houtside : outside (indexAnswered c false (indexWritten c r s)) = outside s := by simp [indexWritten]
  have hlines : (indexAnswered c false (indexWritten c r s)).lines = (indexWritten c r s).lines :=
    (lines_of_outside houtside).trans (setCard_lines ..).symm
  have hwritten := card_indexWritten c r s
  refine ⟨_, indexWriteEnd_done hop hindex, ?_⟩
  rw [startNext_of_nothing (by rw [hcard, hwritten]; exact hqueue) (by rw [hcard, hwritten]),
    idleCheck_of_deselected (by rw [hwritten]; exact hst) hlines hcard]
  exact ⟨hclose, hcard, houtside⟩

/-- The card that an index record leaves behind when its clip closes. -/
theorem deselectedState_indexWritten (hst : (card c s).state = .active) (hqueue : (card c s).queue = []) :
    deselectedState c (indexWritten c r s) = if isProtected c s = true then .protect
      else if (card c s).capacity - (card c s).committed - (card c s).reserved < 64 then .full else .ready := by
  have hprotected : isProtected c (indexWritten c r s) = isProtected c s := isProtected_congr c (setCard_lines ..)
  have hidle : ({ card c s with
      op := none, index := none, indexCount := min ((card c s).indexCount + 1) 65535
      lastClip := r.number } : Card).busy = false := (Card.busy_eq_false_iff _).2 ⟨hqueue, rfl, rfl⟩
  rw [deselectedState, hprotected, card_indexWritten, if_pos hst, hidle, Card.openState_eq]
  simp only [and_true]

end

/-! ### An INDEX_WRITE with an error (R103, R105) -/

section
variable {s t : State} {c : CardSlot} {k : Clip} {r : IndexRecord} {left : Nat} {h : Option CardHeader}

/-- The clip with the flag of a lost index, and DEGRADED where the card's loss degrades it. -/
theorem answeredClip_leftInIndexing (c : CardSlot) (s : State) (k : Clip) :
    answeredClip c true (leftInIndexing c s k) = { leftInIndexing c s k with
      indexLostA := k.indexLostA || c == .a, indexLostB := k.indexLostB || c == .b } := by
  have hflags : (leftInIndexing c s k).indexLostA = k.indexLostA ∧ (leftInIndexing c s k).indexLostB = k.indexLostB := by
    unfold leftInIndexing Clip.degradedBy
    split
    · split <;> exact ⟨rfl, rfl⟩
    · exact ⟨rfl, rfl⟩
  obtain ⟨ha, hb⟩ := hflags
  rw [answeredClip, if_pos rfl, loseIndex_eq, ha, hb]

/-- What a card's loss in INDEXING leaves of the clip's record: its number, its frames, its start label and its stop
reason. -/
theorem answeredClip_keeps (c : CardSlot) (s : State) (k : Clip) :
    (answeredClip c true (leftInIndexing c s k)).number = k.number
      ∧ (answeredClip c true (leftInIndexing c s k)).frames = k.frames
      ∧ (answeredClip c true (leftInIndexing c s k)).start = k.start
      ∧ (answeredClip c true (leftInIndexing c s k)).reason = k.reason := by
  rw [answeredClip_leftInIndexing]
  unfold leftInIndexing Clip.degradedBy
  split
  · split <;> exact ⟨rfl, rfl, rfl, rfl⟩
  · exact ⟨rfl, rfl, rfl, rfl⟩

theorem leftInIndexing_congr (hrecorder : t.recorder = s.recorder) (k : Clip) :
    leftInIndexing c t k = leftInIndexing c s k := by
  rw [leftInIndexing, isTarget_congr c hrecorder, isTarget_congr (otherCard c) hrecorder, hrecorder]
  rfl

/-- The state `u` is `s` after the loss of a card in INDEXING, with its index answer still to come. -/
structure IndexingLost (c : CardSlot) (k : Clip) (s u : State) : Prop where
  same : SameButClips s u
  opened : openClip u = some (leftInIndexing c s k)
  awaitA : u.recorder.awaitA = s.recorder.awaitA
  awaitB : u.recorder.awaitB = s.recorder.awaitB
  target : isTarget (otherCard c) u = isTarget (otherCard c) s

/-- The loss of a card in INDEXING, in a state with the engine of `s` (R122, R123). -/
theorem indexingLost_cardLost {v : State} (hsame : SameButClips s v) (hrecorder : v.recorder = s.recorder)
    (hopen : openClip s = some k) (hphase : s.recorder.phase = some .indexing) :
    IndexingLost c k s (cardLost c [] v) ∧ ∀ d, card d (cardLost c [] v) = card d v := by
  obtain ⟨_, hunit, hclock, hkeeps⟩ := hsame
  have hopen' : openClip v = some k := (openClip_congr (by rw [hrecorder])).trans hopen
  obtain ⟨targetA, targetB, clips, hlost, htarget, hclip⟩ :=
    cardLost_indexing (c := c) hopen' (by rw [hrecorder]; exact hphase)
  have hlost' : (cardLost c [] v).recorder = { s.recorder with
      targetA := targetA, targetB := targetB, clips := clips } := by rw [hlost, hrecorder]
  refine ⟨⟨⟨⟨_, _, _, _, _, hlost'⟩, ?_, ?_, keeps_cardLost hkeeps c []⟩, ?_, by rw [hlost'], by rw [hlost'], ?_⟩,
    fun d => ?_⟩
  · rw [hlost]; exact hunit
  · rw [hlost]; exact hclock
  · rw [hclip, leftInIndexing_congr hrecorder]
  · rw [htarget, isTarget_congr _ hrecorder]
  · rw [hlost]; exact card_congr d rfl rfl

theorem IndexingLost.setCard {u : State} (h : IndexingLost c k s u) (x : Card) :
    IndexingLost c k s (setCard c x u) := by
  obtain ⟨⟨hrecorder, hunit, hclock, hkeeps⟩, hopened, ha, hb, htarget⟩ := h
  have hsame : (Machine.setCard c x u).recorder = u.recorder := setCard_recorder ..
  exact ⟨⟨hsame ▸ hrecorder, (setCard_unit ..).trans hunit, (setCard_clock ..).trans hclock,
    keeps_setCard hkeeps c x⟩, (openClip_congr (by rw [hsame])).trans hopened, by rw [hsame]; exact ha,
    by rw [hsame]; exact hb, (isTarget_congr _ hsame).trans htarget⟩

theorem IndexingLost.owesOther {u : State} (h : IndexingLost c k s u) : owesOther c u = owesOther c s := by
  rw [Machine.owesOther, Machine.owesOther, h.awaitA, h.awaitB]

/-- INDEXING goes on while the other card owes its index answer (R125). -/
theorem IndexingLost.waits {u : State} (h : IndexingLost c k s u) (howed : Machine.owesOther c s = true) :
    let t := indexAnswered c true u
    openClip t = some (answeredClip c true (leftInIndexing c s k)) ∧ t.recorder.state = s.recorder.state
      ∧ t.recorder.phase = s.recorder.phase ∧ t.recorder.awaitA = (s.recorder.awaitA && c != .a)
      ∧ t.recorder.awaitB = (s.recorder.awaitB && c != .b) ∧ t.recorder.stopReq = s.recorder.stopReq
      ∧ t.unit = s.unit ∧ ∀ d, card d t = card d u := by
  intro t
  obtain ⟨hclip, clips, ht⟩ := indexAnswered_waits (h.owesOther.trans howed) h.opened true
  obtain ⟨_, _, _, _, _, hu⟩ := h.same.recorder
  have hrecorder := congrArg State.recorder ht
  have hstate : u.recorder.state = s.recorder.state ∧ u.recorder.phase = s.recorder.phase
      ∧ u.recorder.stopReq = s.recorder.stopReq := by rw [hu]; exact ⟨rfl, rfl, rfl⟩
  obtain ⟨hst, hphase, hstop⟩ := hstate
  refine ⟨hclip, (congrArg Recorder.state hrecorder).trans hst, (congrArg Recorder.phase hrecorder).trans hphase,
    (congrArg Recorder.awaitA hrecorder).trans (congrArg (· && c != .a) h.awaitA),
    (congrArg Recorder.awaitB hrecorder).trans (congrArg (· && c != .b) h.awaitB),
    (congrArg Recorder.stopReq hrecorder).trans hstop, (congrArg State.unit ht).trans h.same.unit, fun d => ?_⟩
  exact (congrArg (card d) ht).trans (card_congr d rfl rfl)

/-- The lost index is the last answer, and the clip closes (R125). -/
theorem IndexingLost.closes {u : State} (h : IndexingLost c k s u) (howed : Machine.owesOther c s = false)
    (hstate : s.recorder.state = .stopping) (hphase : s.recorder.phase = some .indexing) :
    let t := indexAnswered c true u
    clipCloses (answeredClip c true (leftInIndexing c s k)) s t
      ∧ (isTarget (otherCard c) s = false → card (otherCard c) t = card (otherCard c) u)
      ∧ ((card (otherCard c) u).state = .ready → (card (otherCard c) t).state = .ready) := by
  intro t
  have howed' := h.owesOther.trans howed
  obtain ⟨_, _, _, _, _, hu⟩ := h.same.recorder
  have hcard := card_indexAnswered_last h.opened (by rw [hu]; exact hphase) howed' true (otherCard c)
  refine ⟨indexAnswered_closes h.same h.opened hphase hstate howed' true, fun hother => ?_, fun hready => ?_⟩
  · rw [h.target, hother] at hcard
    exact hcard
  · rw [hcard]
    simp [deselectedState, hready]

/-- The record of a clip that closes after the loss of a card in INDEXING. -/
theorem closedClip_answered (c : CardSlot) (s : State) (k : Clip) :
    closedClip (answeredClip c true (leftInIndexing c s k)) s = { leftInIndexing c s k with
      indexLostA := k.indexLostA || c == .a, indexLostB := k.indexLostB || c == .b
      state := .closed, endLabel := some (endLabelOf k s) } := by
  obtain ⟨_, hframes, hstart, _⟩ := answeredClip_keeps c s k
  have hend : endLabelOf (answeredClip c true (leftInIndexing c s k)) s = endLabelOf k s := by
    rw [endLabelOf, endLabelOf, hframes, hstart]
  rw [closedClip, hend, answeredClip_leftInIndexing]

theorem stopResult_closed (k : Clip) (s : State) : stopResult (closedClip k s) = field16 k.number ++ field24 k.frames
    ++ labelBytes (endLabelOf k s) ++ [BitVec.ofNat 8 ((k.reason.map StopReason.code).getD 0)] := stopResult_eq _

theorem stopResult_answered (c : CardSlot) (s : State) (k : Clip) :
    stopResult (closedClip (answeredClip c true (leftInIndexing c s k)) s) = stopResult (closedClip k s) := by
  obtain ⟨hnumber, hframes, hstart, hreason⟩ := answeredClip_keeps c s k
  rw [stopResult_closed, stopResult_closed, endLabelOf, endLabelOf, hnumber, hframes, hstart, hreason]

end

end Sys2Proof.Machine
end

section
/-! PROOFS. Card writes end: the statement, from its clauses (O50). -/
namespace Sys2Proof.Machine

section
variable {s : State} {c : CardSlot} {k : Clip} {r : IndexRecord} {left : Nat} {h : Option CardHeader}

/-- An index write that fails is the loss of its card in INDEXING, with the index answered INDEX_LOST. -/
theorem writeError_of_indexing (hqueue : (card c s).queue = []) (hindex : (card c s).index = some r) :
    writeError c (endOp c s) = indexAnswered c true (cardLost c [] (cardFaulted c s)) := by
  have hqueued : (card c s).queued = [] := by rw [Card.queued, hqueue]; rfl
  rw [writeError_eq, hindex, hqueued]
  rfl

theorem indexingLost_cardFaulted (hopen : openClip s = some k) (hphase : s.recorder.phase = some .indexing) :
    IndexingLost c k s (cardLost c [] (cardFaulted c s))
      ∧ ∀ d, card d (cardLost c [] (cardFaulted c s)) = card d (cardFaulted c s) :=
  indexingLost_cardLost (sameButClips_of_recorder (cardFaulted_recorder c s) (cardFaulted_unit c s)
    (clock_of_outside (outside_cardFaulted c s)) (keeps_cardFaulted c s)) (cardFaulted_recorder c s) hopen hphase

/-- The card of a failed index write is in FAULT, whether the clip waits or closes. -/
theorem card_writeError_of_indexing (hqueue : (card c s).queue = []) (hindex : (card c s).index = some r)
    (hopen : openClip s = some k) (hphase : s.recorder.phase = some .indexing) :
    card c (writeError c (endOp c s))
      = { card c s with state := .fault, op := none, reserved := 0, index := none } := by
  obtain ⟨_, hcards⟩ := indexingLost_cardFaulted (c := c) hopen hphase
  obtain ⟨_, hfault⟩ := cardHolds_indexAnswered c c true (cardLost c [] (cardFaulted c s))
  rw [writeError_of_indexing hqueue hindex]
  refine (hfault ?_).trans ((hcards c).trans ((card_cardFaulted c s).trans ?_))
  · rw [hcards, card_cardFaulted]
  · exact congrArg (fun q => ({ card c s with
      state := .fault, op := none, queue := q, reserved := 0, index := none } : Card)) hqueue.symm

theorem indexRequest_taken (c : CardSlot) (k : Clip) (s : State)
    (htakes : (card c s).state = .active ∨ (card c s).state = .ready ∨ (card c s).state = .full) :
    ((card c s).op = none → (card c s).queue = [] → requestIndex c true k s = setCard c { card c s with
        index := some (indexRecordFor c k s), op := some ⟨.indexWrite, 6750000, 0,
          some ⟨(card c s).committed, min ((card c s).indexCount + 1) 65535, k.number⟩, true⟩ } s)
    ∧ ((card c s).op ≠ none →
        requestIndex c true k s = setCard c { card c s with index := some (indexRecordFor c k s) } s) := by
  rw [requestIndex_taken htakes]
  refine ⟨fun hop hqueue => ?_, fun hop => ?_⟩
  · rw [serveLink_of_index (k := { card c s with index := some (indexRecordFor c k s) }) hop hqueue rfl]
    rfl
  · rw [serveLink_of_busy (k := { card c s with index := some (indexRecordFor c k s) }) hop]

theorem indexRequest_lost (c : CardSlot) (k : Clip) (s : State) (hleft : (card c s).state = .empty
      ∨ (card c s).state = .mounting ∨ (card c s).state = .protect ∨ (card c s).state = .formatting
      ∨ (card c s).state = .fault) (hopen : openClip s = some k) :
    openClip (requestIndex c true k s) = some { k with
        indexLostA := k.indexLostA || c == .a, indexLostB := k.indexLostB || c == .b }
      ∧ requestIndex c true k s = { s with recorder := { s.recorder with
          clips := (requestIndex c true k s).recorder.clips
          awaitA := s.recorder.awaitA && c != .a, awaitB := s.recorder.awaitB && c != .b } } := by
  rw [requestIndex_lost hleft]
  exact ⟨(openClip_recordIndexAnswer hopen c true).trans (congrArg some (loseIndex_eq c k)),
    recordIndexAnswer_eq c true s⟩

/-- A FORMAT that ends with ERROR, or without an answer (R106, R94). -/
theorem formatEnd_error_eq {cmd : Instr} (hcmd : cmd = .formatEnd c .error ∨ cmd = .cardLinkTimeout c)
    (hop : (card c s).op = some ⟨.format, left, 0, none, true⟩) :
    exec cmd s = .next (formatAnswered c .error (endOp c s)) := by
  have herror : linkEnd c .format (formatAnswered c .error) s = formatAnswered c .error (endOp c s) :=
    linkEnd_observed hop _
  obtain rfl | rfl := hcmd
  · exact congrArg Host.Outcome.next herror
  · exact congrArg Host.Outcome.next ((linkTimedOut_eq hop).trans herror)

theorem format_error (n : Fin 32) (c : CardSlot) (left : Nat) (cmd : Instr) (s : State)
    (hcmd : cmd = .formatEnd c .error ∨ cmd = .cardLinkTimeout c) (hst : (card c s).state = .formatting)
    (hop : (card c s).op = some ⟨.format, left, 0, none, true⟩) (hformat : (card c s).format = some n)
    (hrunning : s.unit.slots[n].state = .running) :
    ∃ t, exec cmd s = .next t
      ∧ card c t = { card c s with state := .fault, op := none, format := none }
      ∧ (isMuted .mediaFault s = false → isLatched .mediaFault t = true)
      ∧ (isMuted (cardClass c) s = false → isLatched (cardClass c) t = true)
      ∧ t.unit = (answered n .mediaFault (byteOf CardState.fault.code
          :: (field32 (card c s).capacity ++ field32 (card c s).free)) s).unit
      ∧ t = { setCard c (card c t) s with events := t.events, unit := t.unit } := by
  have hmoved : (card c (endOp c s)).state ≠ .fault := by rw [endOp, card_setCard_same, hst]; nofun
  have hmuted (class' : EventClass) : isMuted class' (endOp c s) = isMuted class' s :=
    (keeps_setCard (Keeps.refl s) c _).isMuted_eq class'
  refine ⟨_, formatEnd_error_eq hcmd hop, ?_⟩
  rw [formatAnswered_error hformat (by rw [hrunning]; rfl)]
  refine ⟨by cases c <;> rfl, fun hm => ?_, fun hm => ?_, by cases c <;> rfl, by cases c <;> rfl⟩
  · exact isLatched_mediaFault hmoved ((hmuted _).trans hm)
  · exact isLatched_setCardState (st := .fault) hmoved ((hmuted _).trans hm)

end

/-- Settles O50: each end of a card operation by its rule, with the losses of R122 and the close of R125. -/
theorem cardWritesEnd : Obligations.CardWritesEnd := by
  refine ⟨blockWrite_done, blockWrite_error,
    fun c k s => ⟨indexRequest_taken c k s, indexRequest_lost c k s⟩, ?_, ?_, ?_, format_error, ?_⟩
  · intro c left h r s hst hop hqueue hindex howed
    exact indexWrite_done_waits c left h r s hst hop hqueue hindex howed
  · intro c left unsent e s hst hop hqueue hindex hrec hphase hmirror htarget _ k cmd
    exact blockWrite_error_relay c left unsent e s hst hop hqueue hindex hrec hphase hmirror htarget k cmd
  · intro c left h r k cmd s d kept lost owed last hcmd hst hop hqueue hindex hstate hphase hopen
    obtain ⟨hlost, hcards⟩ := indexingLost_cardFaulted (c := c) hopen hphase
    obtain ⟨hfault, hclass⟩ := isLatched_writeError hst
    have houtside := outside_writeError_endOp c s
    have hcard := card_writeError_of_indexing hqueue hindex hopen hphase
    have hother := (hcards (otherCard c)).trans (card_cardFaulted_other c s)
    have heq := writeError_of_indexing hqueue hindex
    refine ⟨_, writeError_of_index hcmd hop, hcard, hfault, hclass, fun howed => ?_, fun howed => ?_,
      fun howed hrestart hafter => ?_, fun howed hrestart hpower hready => ?_, congrArg Outside.clock houtside,
      congrArg Outside.lines houtside, congrArg Outside.vf houtside, congrArg Outside.mem houtside⟩
    · obtain ⟨hclip, hst', hphase', ha, hb, hstop, hunit, hsame⟩ := hlost.waits howed
      rw [heq]
      exact ⟨hclip.trans (congrArg some (answeredClip_leftInIndexing c s k)), hst'.trans hstate,
        hphase'.trans hphase, (hsame _).trans hother, ha, hb, hstop, hunit⟩
    · obtain ⟨⟨hnone, hphase', hmem, ha, hb, hclosed, hrec, _, _⟩, hkept, _⟩ := hlost.closes howed hstate hphase
      rw [closedClip_answered] at hmem
      rw [heq]
      exact ⟨hnone, hphase', hmem, ha, hb, fun h => (hkept h).trans hother, hclosed, hrec⟩
    · obtain ⟨⟨_, _, _, _, _, _, _, hidle, _⟩, _⟩ := hlost.closes howed hstate hphase
      rw [stopResult_answered, stopResult_closed, idleState_eq] at hidle
      rw [heq]
      exact hidle hrestart hafter
    · obtain ⟨⟨_, _, _, _, _, _, _, _, hrestarts⟩, _, hready'⟩ := hlost.closes howed hstate hphase
      rw [heq]
      exact hrestarts hrestart hpower ⟨_, hready' (by rw [hother]; exact hready)⟩
  · intro c left h r s hst hop hqueue hindex hstate hphase howed htarget _ k hopen last idle state
    obtain ⟨t, hexec, ⟨hnone, hphase', hmem, ha, hb, hclosed, hrec, hidle, hrestarts⟩, hcard, houtside⟩ :=
      indexWrite_done_closes hst hop hqueue hindex hstate hphase howed htarget hopen
    rw [deselectedState_indexWritten hst hqueue, card_indexWritten] at hcard
    rw [stopResult_closed, idleState_eq] at hidle
    refine ⟨t, hexec, hnone, hphase', hmem, hclosed, ha, hb, hcard, hidle, fun hrestart hpower hready => ?_, hrec,
      congrArg Outside.clock houtside, congrArg Outside.lines houtside, congrArg Outside.vf houtside,
      congrArg Outside.mem houtside⟩
    exact hrestarts hrestart hpower ⟨c, by rw [hcard]; exact hready⟩

end Sys2Proof.Machine
end

section
/-! PROOFS. The edges of the card lines: mounts and protect check points (O48). -/
namespace Sys2Proof.Machine

/-! ### The expiry of a debounce timer (R21 to R23) -/

section
variable {s : State} {i : Fin 7} {c : CardSlot}

/-- The lines after the debounce timer of one of them has expired: its level is taken, and an enabled edge recorded. -/
def edgeLines (i : Fin 7) (s : State) : Vector Line 7 := put s.lines i { s.lines[i] with
  debounced := s.lines[i].raw, timer := none
  edge := if s.lines[i].enabled s.lines[i].raw = true then some ⟨s.lines[i].raw, stampNow s⟩ else s.lines[i].edge }

/-- The state in which the edge of a line reaches its owner. -/
def edgeTaken (i : Fin 7) (s : State) : State :=
  recordEdge i s.lines[i].raw (updateLine i (fun l => { l with debounced := l.raw, timer := none }) s)

theorem exec_debounceExpiry (h : s.lines[i].timer ≠ none) :
    exec (.debounceExpiry i) s = .next (deliverEdge i s.lines[i].raw (edgeTaken i s)) :=
  congrArg Host.Outcome.next (if_pos (Option.isSome_iff_ne_none.2 h))

theorem modify_modify {α : Type} {n : Nat} (v : Vector α n) (i : Fin n) (f g : α → α) :
    modify (modify v i f) i g = modify v i (g ∘ f) := by
  have hget : (modify v i f)[i] = f v[i] := modify_same v i f
  rw [modify, hget]
  simp [modify, put]

theorem edgeTaken_eq (i : Fin 7) (s : State) :
    edgeTaken i s = { s with lines := edgeLines i s, events := (edgeTaken i s).events } := by
  have hget : (modify s.lines i fun l => { l with debounced := l.raw, timer := none })[i]
      = { s.lines[i] with debounced := s.lines[i].raw, timer := none } := modify_same ..
  have henabled : (updateLine i (fun l => { l with debounced := l.raw, timer := none }) s).lines[i].enabled
      s.lines[i].raw = s.lines[i].enabled s.lines[i].raw := by
    rw [updateLine_lines, hget]
    rfl
  unfold edgeTaken edgeLines recordEdge
  rw [henabled]
  cases s.lines[i].enabled s.lines[i].raw
  · rfl
  · simp only [if_true, updateLine, modify_modify]
    rfl

theorem keeps_edgeTaken (i : Fin 7) (s : State) : Keeps s (edgeTaken i s) := by
  unfold edgeTaken recordEdge
  split
  · refine keeps_latch ?_ _
    exact Keeps.refl s
  · exact Keeps.refl s

theorem edgeTaken_recorder (i : Fin 7) (s : State) : (edgeTaken i s).recorder = s.recorder := by rw [edgeTaken_eq]

theorem edgeTaken_unit (i : Fin 7) (s : State) : (edgeTaken i s).unit = s.unit := by rw [edgeTaken_eq]

theorem card_edgeTaken (d : CardSlot) (i : Fin 7) (s : State) : card d (edgeTaken i s) = card d s := by
  rw [edgeTaken_eq]; exact card_congr d rfl rfl

/-- The detect line of a card slot. -/
def detectLine (c : CardSlot) : Fin 7 := if c = .a then 0 else 1

/-- The protect line of a card slot. -/
def guardLine (c : CardSlot) : Fin 7 := if c = .a then 2 else 3

theorem deliverEdge_detect (c : CardSlot) (rising : Bool) (s : State) :
    deliverEdge (detectLine c) rising s = if rising then insertCard c s else removeCard c s := by cases c <;> rfl

theorem deliverEdge_guard (c : CardSlot) (rising : Bool) (s : State) :
    deliverEdge (guardLine c) rising s = checkPoint c s := by cases c <;> rfl

theorem isProtected_eq (c : CardSlot) (s : State) : isProtected c s = s.lines[guardLine c].debounced := by
  cases c <;> rfl

/-- The edge of a protect line is taken into its card's protect level, and that of a detect line into none (R99). -/
theorem isProtected_edgeTaken_guard (c : CardSlot) (s : State) :
    isProtected c (edgeTaken (guardLine c) s) = s.lines[guardLine c].raw := by
  have hget : (edgeLines (guardLine c) s)[guardLine c].debounced = s.lines[guardLine c].raw :=
    congrArg Line.debounced (put_same ..)
  rw [isProtected_eq, edgeTaken_eq]
  exact hget

theorem isProtected_edgeTaken_detect (d c : CardSlot) (s : State) :
    isProtected d (edgeTaken (detectLine c) s) = isProtected d s := by
  have hne : detectLine c ≠ guardLine d := by cases c <;> cases d <;> decide
  have hget := put_other s.lines (detectLine c) (guardLine d) (edgeLines (detectLine c) s)[detectLine c] hne
  have hlines : (edgeTaken (detectLine c) s).lines
      = put s.lines (detectLine c) (edgeLines (detectLine c) s)[detectLine c] := by
    rw [edgeTaken_eq]
    exact (congrArg (put s.lines (detectLine c)) (put_same ..)).symm
  rw [isProtected_eq, isProtected_eq, hlines]
  exact congrArg Line.debounced hget

end

/-! ### Mounts (R96, R97, R107) -/

section
variable {s : State} {c : CardSlot} {left : Nat}

/-- The card that a mount leaves: MOUNTING, with its HEADER_READ in flight where the link is free. -/
def mountingCard (k : Card) : Card := { k with
  state := .mounting
  op := if k.op = none then some ⟨.headerRead, 40500000, 0, none, true⟩ else k.op }

theorem beginMount_eq (c : CardSlot) (s : State) : beginMount c s
    = { setCard c (mountingCard (card c s)) s with events := (setCardState c .mounting s).events } := by
  have hcard := card_setCardState c .mounting s
  unfold beginMount
  dsimp only
  rw [hcard]
  by_cases hop : (card c s).op = none
  · have hmounting : mountingCard (card c s)
        = ({ card c s with state := .mounting } : Card).start .headerRead 1 := by
      rw [mountingCard, if_pos hop]
      rfl
    rw [hmounting, hop, setCardState_eq]
    cases c <;> rfl
  · have hmounting : mountingCard (card c s) = { card c s with state := .mounting } := by
      rw [mountingCard, if_neg hop]
    rw [hmounting, if_pos (Option.isSome_iff_ne_none.2 hop)]
    refine (setCardState_eq c .mounting s).trans ?_
    cases c <;> rfl

theorem mount_inserted (c : CardSlot) (s : State) (htimer : s.lines[detectLine c].timer ≠ none)
    (hraw : s.lines[detectLine c].raw = true) (hst : (card c s).state = .empty) :
    ∃ t, exec (.debounceExpiry (detectLine c)) s = .next t ∧ card c t = mountingCard (card c s)
      ∧ (isMuted (cardClass c) s = false → isLatched (cardClass c) t = true)
      ∧ t = { setCard c (card c t) s with lines := edgeLines (detectLine c) s, events := t.events } := by
  have hcard := card_edgeTaken c (detectLine c) s
  have hempty : (card c (edgeTaken (detectLine c) s)).state = .empty := by rw [hcard, hst]
  refine ⟨_, exec_debounceExpiry htimer, ?_⟩
  rw [deliverEdge_detect, hraw, if_pos rfl, insertCard, if_pos hempty, beginMount_eq, hcard]
  refine ⟨by cases c <;> rfl, fun hm => ?_, ?_⟩
  · exact isLatched_setCardState (st := .mounting) (by rw [hempty]; nofun)
      (((keeps_edgeTaken _ s).isMuted_eq _).trans hm)
  · rw [edgeTaken_eq]
    cases c <;> rfl

theorem mount_occupied (c : CardSlot) (s : State) (htimer : s.lines[detectLine c].timer ≠ none)
    (hraw : s.lines[detectLine c].raw = true) (hst : (card c s).state ≠ .empty) :
    ∃ t, exec (.debounceExpiry (detectLine c)) s = .next t
      ∧ t = { s with lines := edgeLines (detectLine c) s, events := t.events } := by
  have hfull : (card c (edgeTaken (detectLine c) s)).state ≠ .empty := by rw [card_edgeTaken]; exact hst
  refine ⟨_, exec_debounceExpiry htimer, ?_⟩
  rw [deliverEdge_detect, hraw, if_pos rfl, insertCard, if_neg hfull]
  exact edgeTaken_eq _ s

theorem mountAfterReset_starts (c : CardSlot) (s : State) (hst : (card c s).state = .mounting)
    (hop : (card c s).op = none) : exec (.mountAfterResetStart c) s
      = .next (setCard c { card c s with op := some ⟨.headerRead, 40500000, 0, none, true⟩ } s) := by
  have hdue : mountStartDue c s = true := by simp [mountStartDue, hst, hop]
  exact congrArg Host.Outcome.next (if_pos hdue)

/-! ### The header of a card (R96, R97, R107, R110) -/

theorem headerReadEnd_eq (hop : (card c s).op = some ⟨.headerRead, left, 0, none, true⟩) (answer : HeaderAnswer) :
    exec (.headerReadEnd c answer) s = .next (headerAnswered c answer (endOp c s)) :=
  congrArg Host.Outcome.next (linkEnd_observed hop _)

theorem headerRead_timeout (hop : (card c s).op = some ⟨.headerRead, left, 0, none, true⟩) :
    exec (.cardLinkTimeout c) s = exec (.headerReadEnd c .error) s := congrArg Host.Outcome.next (linkTimedOut_eq hop)

theorem isMuted_endOp (c : CardSlot) (class' : EventClass) (s : State) : isMuted class' (endOp c s) = isMuted class' s :=
  (keeps_setCard (Keeps.refl s) c _).isMuted_eq class'

theorem headerRead_error (hst : (card c s).state = .mounting) :
    let t := setCardState c .fault (endOp c s)
    card c t = { card c s with state := .fault, op := none }
      ∧ (isMuted .mediaFault s = false → isLatched .mediaFault t = true)
      ∧ (isMuted (cardClass c) s = false → isLatched (cardClass c) t = true)
      ∧ t = { setCard c (card c t) s with events := t.events } := by
  intro t
  have hmoved : (card c (endOp c s)).state ≠ .fault := by rw [endOp, card_setCard_same, hst]; nofun
  have hcard : card c t = { card c s with state := .fault, op := none } := by
    refine (card_setCardState c .fault (endOp c s)).trans ?_
    rw [endOp, card_setCard_same]
  refine ⟨hcard, fun hm => ?_, fun hm => ?_, ?_⟩
  · exact isLatched_mediaFault hmoved ((isMuted_endOp ..).trans hm)
  · exact isLatched_setCardState hmoved ((isMuted_endOp ..).trans hm)
  · rw [hcard]
    refine (setCardState_eq c .fault (endOp c s)).trans ?_
    cases c <;> rfl

/-- A header that is not valid is an error (R96). -/
theorem headerAnswered_invalid {capacity committed index last : Nat} (h : capacity = 0 ∨ 16777215 < capacity
    ∨ capacity < committed ∨ 9999 < last) (s : State) :
    headerAnswered c (.header capacity committed index last) s = setCardState c .fault s := by
  have hinvalid : headerValid capacity committed last = false := by
    rw [← Bool.not_eq_true]
    simp only [headerValid, Bool.and_eq_true, decide_eq_true_eq]
    omega
  simp only [headerAnswered, hinvalid]
  rfl

/-- The card with the four values of a valid header, before its state is derived. -/
def headerTaken (c : CardSlot) (capacity committed index last : Nat) (s : State) : State :=
  setCard c { card c s with
    capacity := capacity, committed := committed, reserved := 0, indexCount := index, lastClip := last, op := none } s

theorem takeLastClip_eq (n : Nat) (s : State) : takeLastClip n s = { s with recorder := { s.recorder with
    nextClip := if n = 0 then s.recorder.nextClip
      else max s.recorder.nextClip (if n ≥ 9999 then 1 else n + 1) } } := by
  unfold takeLastClip
  split <;> rfl

theorem headerAnswered_valid {capacity committed index last : Nat}
    (h : 1 ≤ capacity ∧ capacity ≤ 16777215 ∧ committed ≤ capacity ∧ last ≤ 9999) :
    headerAnswered c (.header capacity committed index last) (endOp c s)
      = takeLastClip last (setCardState c
          (if isProtected c s then .protect else if capacity - committed < 64 then .full else .ready)
          (headerTaken c capacity committed index last s)) := by
  obtain ⟨h1, h2, h3, h4⟩ := h
  have hvalid : headerValid capacity committed last = true := by simp [headerValid, h1, h2, h3, h4]
  have htaken : setCard c { card c (endOp c s) with
      capacity := capacity, committed := committed, reserved := 0, indexCount := index, lastClip := last } (endOp c s)
      = headerTaken c capacity committed index last s := by cases c <;> rfl
  have hderived : derivedCardState c (headerTaken c capacity committed index last s)
      = if isProtected c s then .protect else if capacity - committed < 64 then .full else .ready := by
    have hprotected : isProtected c (headerTaken c capacity committed index last s) = isProtected c s :=
      isProtected_congr c (setCard_lines ..)
    rw [derivedCardState, hprotected, headerTaken, card_setCard_same]
    rfl
  rw [← hderived, ← htaken]
  simp only [headerAnswered, hvalid, if_true]

theorem headerRead_valid {capacity committed index last : Nat} {st : CardState} (hst : (card c s).state = .mounting)
    (hmoved : st ≠ .mounting) :
    let t := takeLastClip last (setCardState c st (headerTaken c capacity committed index last s))
    card c t = { card c s with
        state := st, capacity := capacity, committed := committed, reserved := 0, indexCount := index
        lastClip := last, op := none }
      ∧ t.recorder = { s.recorder with
          nextClip := if last = 0 then s.recorder.nextClip
            else max s.recorder.nextClip (if last ≥ 9999 then 1 else last + 1) }
      ∧ (isMuted (cardClass c) s = false → isLatched (cardClass c) t = true)
      ∧ card (otherCard c) t = card (otherCard c) s ∧ t.unit = s.unit ∧ t.clock = s.clock
      ∧ t.lines = s.lines ∧ t.vf = s.vf ∧ t.mem = s.mem := by
  intro t
  have ht : t = _ := takeLastClip_eq ..
  have hcards (d : CardSlot) : card d t = card d (setCardState c st (headerTaken c capacity committed index last s)) := by
    rw [ht]; exact card_congr d rfl rfl
  have houtside : outside t = outside s := by simp [t, headerTaken]
  refine ⟨?_, ?_, fun hm => ?_, ?_, ?_, congrArg Outside.clock houtside, congrArg Outside.lines houtside,
    congrArg Outside.vf houtside, congrArg Outside.mem houtside⟩
  · rw [hcards, card_setCardState, headerTaken, card_setCard_same]
  · rw [ht, setCardState_recorder, headerTaken, setCard_recorder]
  · have hlatched : isLatched (cardClass c) (setCardState c st (headerTaken c capacity committed index last s)) = true :=
      isLatched_setCardState (by rw [headerTaken, card_setCard_same, hst]; exact hmoved.symm)
        (((keeps_setCard (Keeps.refl s) c _).isMuted_eq _).trans hm)
    rw [ht]; exact hlatched
  · rw [hcards, card_setCardState_other, headerTaken, card_setCard_other]
  · rw [ht]
    exact (setCardState_unit ..).trans (setCard_unit ..)

/-! ### Protect check points at an edge of the protect line (R99) -/

theorem guard_edge (c : CardSlot) (s : State) (htimer : s.lines[guardLine c].timer ≠ none) :
    ∃ t, exec (.debounceExpiry (guardLine c)) s = .next t
      ∧ (card c t = { card c s with state :=
          if ((card c s).state = .ready ∨ (card c s).state = .full) ∧ s.lines[guardLine c].raw = true
              ∧ (card c s).queue = [] ∧ (card c s).op = none ∧ (card c s).index = none then .protect
          else if (card c s).state = .protect ∧ s.lines[guardLine c].raw = false then
            (if (card c s).capacity - (card c s).committed - (card c s).reserved < 64 then .full else .ready)
          else (card c s).state })
      ∧ ((card c t).state ≠ (card c s).state → isMuted (cardClass c) s = false → isLatched (cardClass c) t = true)
      ∧ t = { setCard c (card c t) s with lines := edgeLines (guardLine c) s, events := t.events } := by
  have hcard := card_edgeTaken c (guardLine c) s
  have hchecked : card c (checkPoint c (edgeTaken (guardLine c) s))
      = { card c s with state := checkedState c (edgeTaken (guardLine c) s) } := by rw [card_checkPoint, hcard]
  refine ⟨_, exec_debounceExpiry htimer, ?_⟩
  rw [deliverEdge_guard, hchecked]
  refine ⟨?_, fun hmoved hm => ?_, ?_⟩
  · simp only [checkedState, isProtected_edgeTaken_guard, hcard, Card.busy_eq_false_iff, Card.openState_eq]
  · rw [checkPoint_cases]
    exact isLatched_setCardState (by rw [hcard]; exact hmoved.symm) (((keeps_edgeTaken _ s).isMuted_eq _).trans hm)
  · refine (checkPoint_eq c (edgeTaken (guardLine c) s)).trans ?_
    rw [withCardState, hcard, edgeTaken_eq]
    cases c <;> rfl

end

end Sys2Proof.Machine
end

section
/-! PROOFS. The removal of a card: what is left of it, and of the clip (O48). -/
namespace Sys2Proof.Machine

/-! ### A lost card keeps its index and its format (R98, R122) -/

section
variable {s t : State} {c : CardSlot} {e : Extent} {k : Clip}

theorem addMark_phase (kind : MarkKind) (detail : Option Nat) (s : State) :
    (addMark kind detail s).recorder.phase = s.recorder.phase := by
  unfold addMark
  dsimp only
  split
  · split <;> rfl
  · rfl

theorem keepHeld_phase (l : List Extent) (s : State) : (keepHeld l s).recorder.phase = s.recorder.phase := by
  obtain ⟨held, es, u, h⟩ := keepHeld_frame l s
  rw [h, withEssences_recorder]

theorem discardAll_phase (l : List Extent) (s : State) : (discardAll l s).recorder.phase = s.recorder.phase := by
  obtain ⟨es, h⟩ := discardAll_recorder l s
  rw [h]

theorem trimAfter_phase (s : State) : (trimAfter s).recorder.phase = s.recorder.phase := by
  unfold trimAfter
  split <;> exact discardAll_phase ..

theorem clearRestart_phase (status : Status) (s : State) :
    (clearRestart status s).recorder.phase = s.recorder.phase := by
  have hended := congrArg Recorder.phase
    (endStart_recorder status noStart { s with recorder := { s.recorder with restart := false } })
  unfold clearRestart
  dsimp only
  split
  · split
    · exact (trimAfter_phase _).trans hended
    · exact hended
  · rfl

theorem stopGiven_phase (reason : StopReason) (s : State) :
    (stopGiven reason s).recorder.phase = s.recorder.phase := by
  unfold stopGiven
  split
  · split
    · exact clearRestart_phase ..
    · rfl
  · exact clearRestart_phase ..
  · have hended := congrArg Recorder.phase (endStart_recorder .preempted noStart s)
    unfold abandonArming toIdle
    rw [keepHeld_phase, setRecState_frame]
    exact hended
  all_goals rfl

theorem tryQueue_phase (d : CardSlot) (e : Extent) (s : State) :
    (tryQueue d e s).2.recorder.phase = s.recorder.phase := by
  have hqueued (u : State) : (queueExtent d e u).recorder = u.recorder := by
    unfold queueExtent
    split
    · rw [startNext, setCard_recorder, setCard_recorder]
    · rw [checkPoint_recorder, setCardState_recorder]
    all_goals rfl
  unfold tryQueue
  dsimp only
  rw [hqueued]
  split <;> rfl

theorem requeueAll_phase (d : CardSlot) (l : List Extent) (s : State) :
    (requeueAll d l s).recorder.phase = s.recorder.phase := by
  induction l generalizing s with
  | nil => rfl
  | cons e rest ih =>
    unfold requeueAll
    dsimp only
    split
    · exact (ih _).trans (tryQueue_phase ..)
    all_goals
      rw [stopGiven_phase]
      refine (addMark_phase ..).trans ?_
      rw [updateOpen, failAll_frame, withEssences_recorder, setTarget_frame]
      exact tryQueue_phase ..

theorem queueExtent_other (c : CardSlot) (e : Extent) (s : State) :
    card c (queueExtent (otherCard c) e s) = card c s := by
  have hset (k : Card) (u : State) : card c (setCard (otherCard c) k u) = card c u := by
    cases c <;> rfl
  have hchecked (u : State) : card c (checkPoint (otherCard c) u) = card c u := by
    have h := card_checkPoint_other (otherCard c) u
    rwa [otherCard_otherCard] at h
  have hmoved (st : CardState) (u : State) : card c (setCardState (otherCard c) st u) = card c u := by
    have h := card_setCardState_other (otherCard c) st u
    rwa [otherCard_otherCard] at h
  unfold queueExtent
  split
  · rw [startNext, hset, hset]
  · rw [hchecked, hmoved]
  all_goals rfl

theorem card_requeueAll (c : CardSlot) (l : List Extent) (s : State) : card c (requeueAll c l s) = card c s := by
  induction l generalizing s with
  | nil => rfl
  | cons e rest ih =>
    have hqueued (s : State) : card c (tryQueue (otherCard c) e s).2 = card c s := by
      unfold tryQueue
      dsimp only
      rw [queueExtent_other]
      split
      · exact card_congr c rfl rfl
      all_goals rfl
    unfold requeueAll
    dsimp only
    split
    · exact (ih _).trans (hqueued s)
    all_goals rw [card_stopGiven, card_degrade, card_failAll, card_setTarget, hqueued]

/-- A target card lost in REC keeps all but its card state, whether the clip goes on or breaks. -/
theorem card_cardLost_recording (hopen : openClip s = some k) (htarget : isTarget c s = true)
    (hother : isTarget (otherCard c) s = false) (hst : s.recorder.state = .recording) (hphase : s.recorder.phase = none) :
    ∃ st, card c (cardLost c [e] s) = { card c s with state := st } := by
  have hloses {u : State} (hopen : openClip u = some k) (hst : u.recorder.state = .recording) :
      ∃ st, card c (drainIfDone (loseClip c [e] u)) = { card c u with state := st } := by
    have hbroken := loseClip_broken (c := c) hopen (by rw [hst]; nofun) [e]
    have ⟨_, hnone, _⟩ := hbroken
    rw [drainIfDone_of_none hnone, loseClip, card_breakClip, card_failAll]
    exact ⟨_, rfl⟩
  cases hmirror : s.recorder.mirror with
  | true =>
    have hgiven : openClip (setTarget c false s) = some k := (openClip_setTarget c false).trans hopen
    have hlost : lostInMirror c [e] s = loseClip c [e] (setTarget c false s) := by
      have hphase' : (setTarget c false s).recorder.phase = none := by rw [setTarget_frame]; exact hphase
      simp [lostInMirror, hasTarget_setTarget, hother, hphase']
    rw [cardLost_of_mirror hopen htarget hmirror, hlost]
    obtain ⟨st, h⟩ := hloses hgiven (by rw [setTarget_frame]; exact hst)
    exact ⟨st, by rw [h, card_setTarget]⟩
  | false =>
    rw [cardLost_of_relay hopen htarget hmirror]
    cases hrelay : canRelay c s with
    | true =>
      obtain ⟨clips, hrelayed⟩ := relayed_recorder hopen c e
      have hphase' : (requeueAll c [e] (relayed c e s)).recorder.phase = none := by
        rw [requeueAll_phase, hrelayed]; exact hphase
      rw [lostInRelay_relays hphase hrelay, drainIfDone_of_phase (by rw [hphase']; nofun), card_requeueAll,
        card_relayed_same hopen]
      exact ⟨_, rfl⟩
    | false =>
      have hlost : lostInRelay c [e] s = loseClip c [e] s := by simp [lostInRelay, hphase, hrelay]
      rw [hlost]
      exact hloses hopen hst

theorem card_indexAnswered (d c : CardSlot) (lost : Bool) (s : State) :
    ∃ st, card d (indexAnswered c lost s) = { card d s with state := st } := by
  have hanswered := card_recordIndexAnswer d c lost s
  unfold indexAnswered closeIfIndexed
  split
  · cases hopen : openClip (recordIndexAnswer c lost s) with
    | none => exact ⟨_, by simp only [closeClip, hopen]; rw [hanswered]⟩
    | some k => exact ⟨_, by rw [card_closeClip hopen, hanswered]⟩
  · exact ⟨_, by rw [hanswered]⟩

end

end Sys2Proof.Machine
end

section
/-! PROOFS. The removal of a card: its steps, and the statements carried past them (O48). -/
namespace Sys2Proof.Machine

/-! ### States that differ in one card slot and its lines (R98) -/

/-- The state `t` agrees with `s` in the record engine, the slot unit, the clock, the other card and its protect level,
with what `s` has latched still latched. -/
structure SameBeside (c : CardSlot) (s t : State) : Prop where
  recorder : t.recorder = s.recorder
  unit : t.unit = s.unit
  clock : t.clock = s.clock
  other : card (otherCard c) t = card (otherCard c) s
  protect : isProtected (otherCard c) t = isProtected (otherCard c) s
  keeps : Keeps s t

section
variable {s t u v : State} {c : CardSlot} {e : Extent} {k : Clip} {l : List Extent}

theorem SameBeside.openClip (h : SameBeside c s t) : openClip t = Machine.openClip s :=
  openClip_congr (by rw [h.recorder])

theorem SameBeside.isTarget (h : SameBeside c s t) (d : CardSlot) : isTarget d t = Machine.isTarget d s :=
  isTarget_congr d h.recorder

theorem SameBeside.sameButClips (h : SameBeside c s t) : SameButClips s t :=
  sameButClips_of_recorder h.recorder h.unit h.clock h.keeps

theorem SameBeside.setCard (h : SameBeside c s t) (x : Card) : SameBeside c s (setCard c x t) where
  recorder := (setCard_recorder ..).trans h.recorder
  unit := (setCard_unit ..).trans h.unit
  clock := (setCard_clock ..).trans h.clock
  other := (card_setCard_other ..).trans h.other
  protect := (isProtected_congr _ (setCard_lines ..)).trans h.protect
  keeps := keeps_setCard h.keeps c x

theorem SameBeside.setCardState (h : SameBeside c s t) (st : CardState) : SameBeside c s (setCardState c st t) where
  recorder := (setCardState_recorder ..).trans h.recorder
  unit := (setCardState_unit ..).trans h.unit
  clock := (clock_of_outside (by simp)).trans h.clock
  other := (card_setCardState_other ..).trans h.other
  protect := (isProtected_congr _ (lines_of_outside (by simp))).trans h.protect
  keeps := keeps_setCardState h.keeps c st

theorem SameBeside.refl (c : CardSlot) (s : State) : SameBeside c s s := ⟨rfl, rfl, rfl, rfl, rfl, Keeps.refl s⟩

theorem sameBeside_edgeTaken (c : CardSlot) (s : State) : SameBeside c s (edgeTaken (detectLine c) s) where
  recorder := edgeTaken_recorder ..
  unit := edgeTaken_unit ..
  clock := by rw [edgeTaken_eq]
  other := card_edgeTaken ..
  protect := isProtected_edgeTaken_detect ..
  keeps := keeps_edgeTaken ..

theorem sameBeside_clearCard (c : CardSlot) (s : State) : SameBeside c s (clearCard c s) :=
  ((SameBeside.refl c s).setCard _).setCardState _

/-! #### What is said of a returned extent and of a clip, in such states -/

theorem SameBeside.returnSettled (h : SameBeside c s v) (hreturned : returnSettled c e v u) (h' : SameBeside c u t) :
    returnSettled c e s t :=
  returnSettled_congr (returnSettled_before hreturned (by rw [h.recorder]) h.unit) (by rw [h'.recorder]) h'.unit

theorem SameBeside.extentReturned (h : SameBeside c s v) (hreturned : extentReturned c e v u)
    (h' : SameBeside c u t) : extentReturned c e s t := by
  obtain ⟨hsettled, hwaits⟩ := hreturned
  refine ⟨h.returnSettled hsettled h', ?_⟩
  rw [h.recorder, h.unit] at hwaits
  rw [h'.recorder, h'.unit]
  exact hwaits

theorem SameBeside.clipBroken (h : SameBeside c s v) (hbroken : clipBroken k v u) (h' : SameBeside c u t) :
    clipBroken k s t := by
  have hbefore : Machine.clipBroken k s u :=
    clipBroken_congr hbroken (h.keeps.isMuted_eq _).symm (by rw [h.recorder]) (by rw [h.recorder])
      fun hempty => ⟨by rw [h.recorder, hempty], h.unit⟩
  obtain ⟨hhalted, hnone, hmem, ha, hb, hpending, hrestart, hphase, hheld, hafter, hlatched, hunit⟩ := hbefore
  unfold Machine.clipBroken
  rw [h'.openClip, h'.recorder, h'.unit]
  exact ⟨hhalted, hnone, hmem, ha, hb, hpending, hrestart, hphase, hheld, hafter,
    fun hm => h'.keeps.isLatched_of _ (hlatched hm), hunit⟩

theorem SameBeside.lostByRelay (h : SameBeside c s v) (hlost : lostByRelay c e k v u) (h' : SameBeside c u t) :
    lostByRelay c e k s t := by
  have hbefore := lostByRelay_before hlost h.recorder h.unit h.other h.protect h.keeps
  have hsettled (hreturned : Machine.returnSettled c e s u) : Machine.returnSettled c e s t :=
    (SameBeside.refl c s).returnSettled hreturned h'
  have hbroken (hbroke : Machine.clipBroken k s u) : Machine.clipBroken k s t :=
    (SameBeside.refl c s).clipBroken hbroke h'
  unfold Machine.lostByRelay at hbefore ⊢
  dsimp only at hbefore ⊢
  rw [h'.isTarget, h'.isTarget, h'.other, h'.openClip, h'.recorder, h'.unit]
  obtain ⟨hroom, hfull, hbreaks⟩ := hbefore
  refine ⟨fun hready hspans hfree hqueue hmarks => ?_, fun hready hspans hfree hmarks hpending => ?_, fun hstuck => ?_⟩
  · obtain ⟨hc, hd, hactive, hq, hreserved, hclip, hlatched, hrest⟩ := hroom hready hspans hfree hqueue hmarks
    exact ⟨hc, hd, hactive, hq, hreserved, hclip, fun hm => h'.keeps.isLatched_of _ (hlatched hm), hrest⟩
  · obtain ⟨hc, hd, hleft, hq, hreserved, hclip, hlatched, hst, hstop, hreturned⟩ :=
      hfull hready hspans hfree hmarks hpending
    exact ⟨hc, hd, hleft, hq, hreserved, hclip, fun hm => h'.keeps.isLatched_of _ (hlatched hm), hst, hstop,
      hsettled hreturned⟩
  · obtain ⟨hbroke, hreturned⟩ := hbreaks hstuck
    exact ⟨hbroken hbroke, fun hstop hstart => hsettled (hreturned hstop hstart)⟩

/-- The clip goes on beside a card that is removed, DEGRADED by it (R122, R123; log 21). -/
def clipOutlives (c : CardSlot) (s t : State) : Prop :=
  t.recorder.state = s.recorder.state ∧ card (otherCard c) t = card (otherCard c) s
    ∧ ∀ k, openClip s = some k → openClip t = some (k.degradedBy c)
      ∧ isTarget c t = false ∧ isTarget (otherCard c) t = isTarget (otherCard c) s

theorem SameBeside.clipOutlives (h : SameBeside c s v) (hgoes : clipGoesOn c v u) (h' : SameBeside c u t) :
    clipOutlives c s t := by
  obtain ⟨hst, hcards, hclip⟩ := hgoes
  unfold Machine.clipOutlives
  rw [h'.recorder, h'.other, h'.openClip, h'.isTarget, h'.isTarget, ← h.isTarget, ← h.openClip, ← h.recorder,
    ← h.other]
  exact ⟨hst, hcards _, hclip⟩

/-! ### The steps of a removal (R98) -/

/-- The state in which the loss of a removed card is taken: the edge recorded, and the card's operation ended. -/
def detached (c : CardSlot) (s : State) : State := endOp c (edgeTaken (detectLine c) s)

theorem sameBeside_detached (c : CardSlot) (s : State) : SameBeside c s (detached c s) :=
  (sameBeside_edgeTaken c s).setCard _

theorem card_detached (c : CardSlot) (s : State) : card c (detached c s) = { card c s with op := none } := by
  rw [detached, endOp, card_setCard_same, card_edgeTaken]

/-- The state with the queue of a removed card returned. -/
def queueReturned (c : CardSlot) (s : State) : State := cardLost c (card c s).queued (detached c s)

/-- The state that a removal leaves. -/
def removed (c : CardSlot) (s : State) : State := removeCard c (edgeTaken (detectLine c) s)

theorem removed_eq (hst : (card c s).state ≠ .empty) :
    removed c s = clearCard c (loseFormat c (loseIndex c (queueReturned c s))) := by
  unfold removed removeCard queueReturned detached
  dsimp only
  rw [card_edgeTaken, if_neg hst]

theorem exec_removal (htimer : s.lines[detectLine c].timer ≠ none) (hraw : s.lines[detectLine c].raw = false) :
    exec (.debounceExpiry (detectLine c)) s = .next (removed c s) := by
  rw [exec_debounceExpiry htimer, deliverEdge_detect, hraw]
  rfl

theorem outside_removed (c : CardSlot) (s : State) : outside (removed c s) = outside (edgeTaken (detectLine c) s) := by
  simp [removed]

theorem card_clearCard (c : CardSlot) (s : State) : card c (clearCard c s) = Card.powerOn := by
  rw [clearCard, card_setCardState, card_setCard_same]
  rfl

/-- With no index and no format pending the removed card is cleared as it is lost. -/
theorem removed_of_idle (hst : (card c s).state ≠ .empty) (hindex : (card c (queueReturned c s)).index = none)
    (hformat : (card c (queueReturned c s)).format = none) : removed c s = clearCard c (queueReturned c s) := by
  have hindexed : loseIndex c (queueReturned c s) = queueReturned c s := by simp [loseIndex, hindex]
  rw [removed_eq hst, hindexed]
  simp only [loseFormat, hformat]

theorem loseFormat_cases (c : CardSlot) (s : State) : loseFormat c s = s ∨ ∃ n, loseFormat c s
    = complete n .noMedia (formatResult Card.powerOn) (setCard c { card c s with format := none } s) := by
  unfold loseFormat
  split
  next n _ => exact .inr ⟨n, rfl⟩
  · exact .inl rfl

theorem keeps_loseFormat (c : CardSlot) (s : State) : Keeps s (loseFormat c s) := by
  obtain h | ⟨n, h⟩ := loseFormat_cases c s
  · rw [h]; exact Keeps.refl s
  · rw [h]; exact keeps_complete (keeps_setCard (Keeps.refl s) c _) n _ _

theorem card_loseFormat (c : CardSlot) (s : State) : ∃ f, card c (loseFormat c s) = { card c s with format := f } := by
  obtain h | ⟨n, h⟩ := loseFormat_cases c s
  · exact ⟨_, by rw [h]⟩
  · refine ⟨none, ?_⟩
    rw [h, complete_frame]
    exact (card_congr c rfl rfl).trans (card_setCard_same ..)

theorem keeps_loseIndex (c : CardSlot) (s : State) : Keeps s (loseIndex c s) := by
  unfold loseIndex
  split
  · exact keeps_closeIfIndexed (keeps_recordIndexAnswer (keeps_setCard (Keeps.refl s) c _) c true)
  · exact Keeps.refl s

/-- Until its slot is cleared the removed card is in no EMPTY state. -/
theorem removed_ne_empty (hst : (card c s).state ≠ .empty) :
    (card c (loseFormat c (loseIndex c (queueReturned c s)))).state ≠ .empty := by
  obtain ⟨f, hformat⟩ := card_loseFormat c (loseIndex c (queueReturned c s))
  have hlost : (card c (queueReturned c s)).state ≠ .empty := by
    obtain ⟨hne, _⟩ := cardHolds_cardLost c c (card c s).queued (detached c s)
    exact hne (by rw [card_detached]; exact hst)
  rw [hformat]
  unfold loseIndex
  split
  · obtain ⟨hne, _⟩ := cardHolds_indexAnswered c c true (setCard c
      { card c (queueReturned c s) with index := none, op := none } (queueReturned c s))
    exact hne (by rw [card_setCard_same]; exact hlost)
  · exact hlost

theorem isLatched_removed (hst : (card c s).state ≠ .empty) (hm : isMuted (cardClass c) s = false) :
    isLatched (cardClass c) (removed c s) = true := by
  have hkeeps : Keeps s (queueReturned c s) := keeps_cardLost (sameBeside_detached c s).keeps c _
  have hmuted : isMuted (cardClass c) (loseFormat c (loseIndex c (queueReturned c s))) = isMuted (cardClass c) s :=
    ((keeps_loseFormat ..).isMuted_eq _).trans (((keeps_loseIndex ..).isMuted_eq _).trans (hkeeps.isMuted_eq _))
  rw [removed_eq hst, clearCard]
  refine isLatched_setCardState ?_ ?_
  · rw [card_setCard_same]
    exact removed_ne_empty hst
  · exact ((keeps_setCard (Keeps.refl _) c _).isMuted_eq _).trans (hmuted.trans hm)

end

end Sys2Proof.Machine
end

section
/-! PROOFS. The removal of a card by cases, and the statement of mounts and removals (O48). -/
namespace Sys2Proof.Machine

section
variable {s : State} {c : CardSlot} {k : Clip} {e : QueueEntry} {r : IndexRecord} {n : Fin 32}

theorem queueReturned_of_empty (hqueue : (card c s).queue = []) : queueReturned c s = cardLost c [] (detached c s) := by
  rw [queueReturned, Card.queued, hqueue]
  rfl

theorem queueReturned_of_one (hqueue : (card c s).queue = [e]) :
    queueReturned c s = cardLost c [e.extent] (detached c s) := by
  rw [queueReturned, Card.queued, hqueue]
  rfl

/-- With no clip and nothing queued a removal only clears the card. -/
theorem queueReturned_of_none (hopen : openClip s = none) (hqueue : (card c s).queue = []) :
    queueReturned c s = detached c s := by
  rw [queueReturned_of_empty hqueue, cardLost_of_none ((sameBeside_detached c s).openClip.trans hopen)]
  rfl

theorem removed_of_sameCard {st : CardState} (hst : (card c s).state ≠ .empty) (hindex : (card c s).index = none)
    (hformat : (card c s).format = none)
    (hcard : card c (queueReturned c s) = { card c (detached c s) with state := st }) :
    removed c s = clearCard c (queueReturned c s) := by
  rw [card_detached] at hcard
  exact removed_of_idle hst (by rw [hcard]; exact hindex) (by rw [hcard]; exact hformat)

theorem removed_alone (hst : (card c s).state ≠ .empty) (hopen : openClip s = none) (hqueue : (card c s).queue = [])
    (hindex : (card c s).index = none) (hformat : (card c s).format = none) : removed c s
      = { setCard c Card.powerOn s with lines := edgeLines (detectLine c) s, events := (removed c s).events } := by
  have hreturned := queueReturned_of_none hopen hqueue
  have heq : removed c s = clearCard c (detached c s) := by
    rw [← hreturned]
    exact removed_of_sameCard hst hindex hformat (by rw [hreturned])
  have hcleared : clearCard c (detached c s) = withCardState c .empty (removed c s).events
      (setCard c { Card.powerOn with state := (card c (detached c s)).state } (detached c s)) := by
    rw [heq]
    exact setCardState_eq ..
  rw [heq, hcleared, detached, edgeTaken_eq]
  cases c <;> rfl

/-- A FORMAT_CARD in progress ends with its card: NO_MEDIA, with the results of the empty slot (R98; log 17). -/
theorem removed_format (hst : (card c s).state ≠ .empty) (hformat : (card c s).format = some n)
    (hopen : openClip s = none) (hqueue : (card c s).queue = []) (hindex : (card c s).index = none)
    (hrunning : s.unit.slots[n].state = .running) :
    (removed c s).unit = (answered n .noMedia (List.replicate 9 0) s).unit := by
  have hunit := (sameBeside_detached c s).unit
  have hcard := card_detached c s
  have hindexed : loseIndex c (detached c s) = detached c s := by simp [loseIndex, hcard, hindex]
  have hended : loseFormat c (detached c s) = complete n .noMedia (formatResult Card.powerOn)
      (setCard c { card c (detached c s) with format := none } (detached c s)) := by
    simp [loseFormat, hcard, hformat]
  have hset := (setCard_unit c { card c (detached c s) with format := none } (detached c s)).trans hunit
  rw [removed_eq hst, queueReturned_of_none hopen hqueue, hindexed, (sameBeside_clearCard c _).unit, hended,
    complete_eq_answered (by rw [hset, hrunning]; rfl), answered_unit_congr hset]
  rfl

/-- A card that leaves the clip going on, DEGRADED by it (R122, R123; log 21). -/
theorem removed_goes_on (hst : (card c s).state ≠ .empty) (hindex : (card c s).index = none)
    (hformat : (card c s).format = none) (hgoes : clipGoesOn c (detached c s) (queueReturned c s)
      ∧ ∀ e, (card c s).queued = [e] → extentReturned c e (detached c s) (queueReturned c s)) :
    clipOutlives c s (removed c s) ∧ ∀ e, (card c s).queue = [e] → extentReturned c e.extent s (removed c s) := by
  have hsame := sameBeside_detached c s
  obtain ⟨hclip, hreturned⟩ := hgoes
  have ⟨_, hcards, _⟩ := hclip
  rw [removed_of_sameCard hst hindex hformat (hcards c)]
  refine ⟨hsame.clipOutlives hclip (sameBeside_clearCard c _), fun e hqueue => ?_⟩
  exact hsame.extentReturned (hreturned _ (by rw [Card.queued, hqueue]; rfl)) (sameBeside_clearCard c _)

theorem detached_phase (c : CardSlot) (s : State) : (detached c s).recorder.phase = s.recorder.phase := by
  rw [(sameBeside_detached c s).recorder]

theorem removed_elsewhere (hst : (card c s).state ≠ .empty) (hindex : (card c s).index = none)
    (hformat : (card c s).format = none) (hphase : s.recorder.phase ≠ some .draining)
    (h : openClip s = none ∨ isTarget c s = false) :
    clipOutlives c s (removed c s) ∧ ∀ e, (card c s).queue = [e] → extentReturned c e.extent s (removed c s) := by
  have hsame := sameBeside_detached c s
  refine removed_goes_on hst hindex hformat (cardLost_elsewhere_goes_on ?_ ?_)
  · rw [detached_phase]; exact hphase
  · rw [hsame.openClip, hsame.isTarget]; exact h

theorem removed_mirror (hst : (card c s).state ≠ .empty) (hindex : (card c s).index = none)
    (hformat : (card c s).format = none) (hphase : s.recorder.phase ≠ some .draining) (hopen : openClip s = some k)
    (htarget : isTarget c s = true) (hmirror : s.recorder.mirror = true) (hother : isTarget (otherCard c) s = true) :
    clipOutlives c s (removed c s) ∧ ∀ e, (card c s).queue = [e] → extentReturned c e.extent s (removed c s) := by
  have hsame := sameBeside_detached c s
  refine removed_goes_on hst hindex hformat (cardLost_mirror_clipGoesOn (hsame.openClip.trans hopen) ?_ ?_ ?_ ?_)
  · rw [hsame.isTarget, htarget]
  · rw [hsame.recorder, hmirror]
  · rw [hsame.isTarget, hother]
  · rw [detached_phase]; exact hphase

/-- A target card that leaves its clip alone in REC is a loss as in R122 and R123. -/
theorem removed_target (hst : (card c s).state ≠ .empty) (hqueue : (card c s).queue = [e])
    (hindex : (card c s).index = none) (hformat : (card c s).format = none) (hopen : openClip s = some k)
    (htarget : isTarget c s = true) (hother : isTarget (otherCard c) s = false)
    (hrec : s.recorder.state = .recording) (hphase : s.recorder.phase = none) :
    (s.recorder.mirror = false → lostByRelay c e.extent k s (removed c s))
    ∧ (s.recorder.mirror = true → clipBroken k s (removed c s)
      ∧ (s.recorder.stopReq = none → s.recorder.pendingStart = none →
          returnSettled c e.extent s (removed c s))) := by
  have hsame := sameBeside_detached c s
  have hopen' := hsame.openClip.trans hopen
  have htarget' := (hsame.isTarget c).trans htarget
  have hother' := (hsame.isTarget (otherCard c)).trans hother
  have hphase' := (detached_phase c s).trans hphase
  have hrec' : (detached c s).recorder.state = .recording := by rw [hsame.recorder, hrec]
  have hreturned := queueReturned_of_one hqueue
  have hcleared := sameBeside_clearCard c (cardLost c [e.extent] (detached c s))
  obtain ⟨st, hcard⟩ := card_cardLost_recording (e := e.extent) hopen' htarget' hother' hrec' hphase'
  rw [removed_of_sameCard hst hindex hformat (by rw [hreturned]; exact hcard), hreturned]
  refine ⟨fun hmirror => ?_, fun hmirror => ?_⟩
  · exact hsame.lostByRelay
      (cardLost_lostByRelay hopen' htarget' (by rw [hsame.recorder, hmirror]) hphase' hrec') hcleared
  · obtain ⟨hbroken, hsettled⟩ := cardLost_mirror_breaks (e := e.extent) hopen' htarget'
      (by rw [hsame.recorder, hmirror]) hother' hphase' hrec'
    rw [hsame.recorder] at hsettled
    exact ⟨hsame.clipBroken hbroken hcleared,
      fun hstop hstart => hsame.returnSettled (hsettled hstop hstart) hcleared⟩

/-- In DRAINING with nothing returned only the target is given up. -/
theorem removed_draining (hst : (card c s).state ≠ .empty) (hqueue : (card c s).queue = [])
    (hindex : (card c s).index = none) (hformat : (card c s).format = none) (hopen : openClip s = some k)
    (htarget : isTarget c s = true) (hother : isTarget (otherCard c) s = false)
    (hphase : s.recorder.phase = some .draining) (hqueued : clipQueued k.serial s = true) :
    (removed c s).recorder = (setTarget c false s).recorder ∧ (removed c s).unit = s.unit
      ∧ card (otherCard c) (removed c s) = card (otherCard c) s := by
  have hsame := sameBeside_detached c s
  have hqueued' : clipQueued k.serial (detached c s) = true := by rw [clipQueued, hsame.recorder]; exact hqueued
  have hreturned : queueReturned c s = setTarget c false (detached c s) :=
    (queueReturned_of_empty hqueue).trans (cardLost_draining (hsame.openClip.trans hopen)
      ((hsame.isTarget c).trans htarget) ((hsame.isTarget _).trans hother) ((detached_phase c s).trans hphase) hqueued')
  have hcleared := sameBeside_clearCard c (setTarget c false (detached c s))
  rw [removed_of_sameCard hst hindex hformat (by rw [hreturned, card_setTarget]), hreturned, hcleared.recorder,
    hcleared.unit, hcleared.other, setTarget_unit, card_setTarget, hsame.unit, hsame.other]
  refine ⟨?_, rfl, rfl⟩
  rw [setTarget_frame, setTarget_frame]
  cases c <;> simp only [setTarget, hsame.recorder]

/-! ### An index that its card takes with it (R98, R125) -/

/-- The state in which the index of a removed card is answered. -/
def indexTaken (c : CardSlot) (s : State) : State :=
  setCard c { card c (queueReturned c s) with index := none, op := none } (queueReturned c s)

theorem indexTaken_lost (hqueue : (card c s).queue = []) (hopen : openClip s = some k)
    (hphase : s.recorder.phase = some .indexing) :
    IndexingLost c k s (indexTaken c s)
      ∧ card (otherCard c) (indexTaken c s) = card (otherCard c) s
      ∧ card c (queueReturned c s) = { card c s with op := none } := by
  have hsame := sameBeside_detached c s
  obtain ⟨hlost, hcards⟩ := indexingLost_cardLost (c := c) hsame.sameButClips hsame.recorder hopen hphase
  rw [← queueReturned_of_empty hqueue] at hlost hcards
  refine ⟨hlost.setCard _, ?_, (hcards c).trans (card_detached c s)⟩
  exact (card_setCard_other ..).trans ((hcards _).trans hsame.other)

theorem removed_of_index (hst : (card c s).state ≠ .empty) (hqueue : (card c s).queue = [])
    (hindex : (card c s).index = some r) (hformat : (card c s).format = none) (hopen : openClip s = some k)
    (hphase : s.recorder.phase = some .indexing) :
    removed c s = clearCard c (indexAnswered c true (indexTaken c s)) := by
  obtain ⟨_, _, hcard⟩ := indexTaken_lost hqueue hopen hphase
  have hlost : loseIndex c (queueReturned c s) = indexAnswered c true (indexTaken c s) := by
    unfold loseIndex
    rw [if_pos (by rw [hcard, hindex]; rfl), indexTaken]
  obtain ⟨st, hanswered⟩ := card_indexAnswered c c true (indexTaken c s)
  have hnone : (card c (indexAnswered c true (indexTaken c s))).format = none := by
    rw [hanswered, indexTaken, card_setCard_same, hcard]
    exact hformat
  rw [removed_eq hst, hlost]
  simp only [loseFormat, hnone]

/-- A target card that leaves its clip alone in INDEXING leaves it as it is. -/
theorem leftInIndexing_alone (htarget : isTarget c s = true) (hother : isTarget (otherCard c) s = false) (k : Clip) :
    leftInIndexing c s k = k := by
  simp [leftInIndexing, htarget, hother]

/-- The clip that a target card leaves in INDEXING. -/
theorem answeredClip_of_target (htarget : isTarget c s = true) (k : Clip) :
    answeredClip c true (leftInIndexing c s k) =
      { (if s.recorder.mirror = true ∧ isTarget (otherCard c) s = true then k.degradedBy c else k) with
        indexLostA := (if s.recorder.mirror = true ∧ isTarget (otherCard c) s = true then
            k.degradedBy c else k).indexLostA || c == .a
        indexLostB := (if s.recorder.mirror = true ∧ isTarget (otherCard c) s = true then
            k.degradedBy c else k).indexLostB || c == .b } := by
  have hleft : leftInIndexing c s k
      = if s.recorder.mirror = true ∧ isTarget (otherCard c) s = true then k.degradedBy c else k := by
    simp [leftInIndexing, htarget]
  rw [answeredClip, if_pos rfl, loseIndex_eq, hleft]

end

end Sys2Proof.Machine
end

section
/-! PROOFS. Mounts, protect check points and removals: the statement, from its clauses (O48). -/
namespace Sys2Proof.Machine

section
variable {s : State} {c : CardSlot} {k : Clip} {r : IndexRecord}

/-- INDEXING goes on without the removed card while the other owes its answer (R98, R125). -/
theorem removed_index_waits (hst : (card c s).state ≠ .empty) (hqueue : (card c s).queue = [])
    (hindex : (card c s).index = some r) (hformat : (card c s).format = none) (hopen : openClip s = some k)
    (hphase : s.recorder.phase = some .indexing) (howed : owesOther c s = true) :
    openClip (removed c s) = some (answeredClip c true (leftInIndexing c s k))
      ∧ (removed c s).recorder.awaitA = (s.recorder.awaitA && c != .a)
      ∧ (removed c s).recorder.awaitB = (s.recorder.awaitB && c != .b)
      ∧ (removed c s).recorder.state = s.recorder.state ∧ (removed c s).recorder.phase = some .indexing
      ∧ (removed c s).unit = s.unit ∧ card (otherCard c) (removed c s) = card (otherCard c) s := by
  obtain ⟨hlost, hother, _⟩ := indexTaken_lost hqueue hopen hphase
  obtain ⟨hclip, hstate, hphase', ha, hb, _, hunit, hcards⟩ := hlost.waits howed
  have hcleared := sameBeside_clearCard c (indexAnswered c true (indexTaken c s))
  rw [removed_of_index hst hqueue hindex hformat hopen hphase, hcleared.openClip, hcleared.recorder, hcleared.unit,
    hcleared.other]
  exact ⟨hclip, ha, hb, hstate, hphase'.trans hphase, hunit, (hcards _).trans hother⟩

/-- The clip closes when the removed card owed the last index answer (R98, R125). -/
theorem removed_index_closes (hst : (card c s).state ≠ .empty) (hqueue : (card c s).queue = [])
    (hindex : (card c s).index = some r) (hformat : (card c s).format = none) (hopen : openClip s = some k)
    (hphase : s.recorder.phase = some .indexing) (howed : owesOther c s = false)
    (hstate : s.recorder.state = .stopping) (hrestart : s.recorder.restart = false) (hafter : s.recorder.after = []) :
    openClip (removed c s) = none
      ∧ closedClip (answeredClip c true (leftInIndexing c s k)) s ∈ (removed c s).recorder.clips
      ∧ (removed c s).recorder.state = idleState s ∧ (removed c s).recorder.phase = none
      ∧ (removed c s).recorder.targetA = false ∧ (removed c s).recorder.targetB = false
      ∧ (isMuted .clipClosed s = false → isLatched .clipClosed (removed c s) = true)
      ∧ (isMuted .recState s = false → isLatched .recState (removed c s) = true)
      ∧ (s.recorder.stopReq = none → (removed c s).unit = s.unit)
      ∧ ∀ m, s.recorder.stopReq = some m → s.unit.slots[m].state = .running →
        (removed c s).recorder.stopReq = none
          ∧ (removed c s).unit = (answered m .ok (stopResult (closedClip k s)) s).unit := by
  obtain ⟨hlost, _, _⟩ := indexTaken_lost (c := c) hqueue hopen hphase
  obtain ⟨⟨hnone, hphase', hmem, ha, hb, hclosed, hrec, hidle, _⟩, _⟩ := hlost.closes howed hstate hphase
  obtain ⟨hst', _, _, hunit, hanswered⟩ := hidle hrestart hafter
  rw [stopResult_answered] at hanswered
  have hcleared := sameBeside_clearCard c (indexAnswered c true (indexTaken c s))
  rw [removed_of_index hst hqueue hindex hformat hopen hphase, hcleared.openClip, hcleared.recorder, hcleared.unit]
  exact ⟨hnone, hmem, hst', hphase', ha, hb, fun hm => hcleared.keeps.isLatched_of _ (hclosed hm),
    fun hm => hcleared.keeps.isLatched_of _ (hrec hm), hunit, hanswered⟩

/-- What every removal does, and what none changes (R98). -/
theorem removed_frame (hst : (card c s).state ≠ .empty) : (removed c s).lines = edgeLines (detectLine c) s
    ∧ card c (removed c s) = Card.powerOn
    ∧ (isMuted (cardClass c) s = false → isLatched (cardClass c) (removed c s) = true)
    ∧ (removed c s).clock = s.clock ∧ (removed c s).scan = s.scan ∧ (removed c s).power = s.power
    ∧ (removed c s).vf = s.vf ∧ (removed c s).mem = s.mem := by
  have houtside := outside_removed c s
  rw [edgeTaken_eq] at houtside
  refine ⟨congrArg Outside.lines houtside, ?_, isLatched_removed hst, congrArg Outside.clock houtside,
    congrArg Outside.scan houtside, congrArg Outside.power houtside, congrArg Outside.vf houtside,
    congrArg Outside.mem houtside⟩
  rw [removed_eq hst, card_clearCard]

end

/-- Settles O48: the mount by its header, the protect line by the check point, and the removal by what it returns. -/
theorem mountsReadTheHeader : Obligations.MountsReadTheHeader := by
  refine ⟨mountAfterReset_starts, fun c left s hst hop => ⟨headerRead_timeout hop, ?_, ?_⟩, fun c s => ?_⟩
  · intro capacity committed index last hvalid
    refine ⟨_, headerReadEnd_eq hop _, ?_⟩
    rw [headerAnswered_valid hvalid]
    refine headerRead_valid hst ?_
    split
    · nofun
    · split <;> nofun
  · intro answer hanswer
    have hfault : headerAnswered c answer (endOp c s) = setCardState c .fault (endOp c s) := by
      obtain rfl | ⟨capacity, committed, index, last, rfl, hinvalid⟩ := hanswer
      · rfl
      · exact headerAnswered_invalid hinvalid _
    refine ⟨_, headerReadEnd_eq hop _, ?_⟩
    rw [hfault]
    exact headerRead_error hst
  · intro d returned detect guard edge
    refine ⟨mount_inserted c s, mount_occupied c s, fun htimer hraw hst => ?_, guard_edge c s⟩
    obtain ⟨hlines, hcard, hlatched, houtside⟩ := removed_frame hst
    refine ⟨_, exec_removal htimer hraw, hlines, hcard, hlatched, removed_alone hst,
      fun n => removed_format hst, fun hindex hformat hphase => ⟨fun h => ?_, fun k hopen htarget hmirror hother => ?_⟩,
      fun e k hqueue hindex hformat hopen => removed_target hst hqueue hindex hformat hopen,
      fun k hqueue hindex hformat hopen => removed_draining hst hqueue hindex hformat hopen,
      fun k r hqueue hindex hformat hopen htarget hphase => ?_, houtside⟩
    · obtain ⟨⟨hstate, hother, hclip⟩, hreturned⟩ := removed_elsewhere hst hindex hformat hphase h
      exact ⟨hstate, hother, hclip, hreturned⟩
    · obtain ⟨⟨hstate, hcard', hclip⟩, hreturned⟩ :=
        removed_mirror hst hindex hformat hphase hopen htarget hmirror hother
      obtain ⟨hdegraded, hgiven, hkept⟩ := hclip k hopen
      exact ⟨hstate, hcard', hdegraded, hgiven, hkept.trans hother, hreturned⟩
    · have hanswered := answeredClip_of_target htarget k
      refine ⟨fun howed => ?_, fun howed hother hstate hrestart hafter => ?_⟩
      · have h := removed_index_waits hst hqueue hindex hformat hopen hphase howed
        rw [hanswered] at h
        exact h
      · have h := removed_index_closes hst hqueue hindex hformat hopen hphase howed hstate hrestart hafter
        rw [closedClip_answered, stopResult_closed, idleState_eq] at h
        rw [leftInIndexing_alone htarget hother] at h
        exact h

end Sys2Proof.Machine
end
